-- ==== Sys2Proof/Word.lean ====
section
/-! DEFINITION. The widths of the block's values (`00_scope.md` rule R6): every value is an unsigned integer of a
stated width (rule R8), so each is a bit vector. -/

namespace Sys2Proof

/-- A byte of a codeword, 8 bits (R6 `BYTE_W`, R33). -/
abbrev Byte := BitVec 8

/-- The data-value port, 12 bits (R6 `DPORT_W`). -/
abbrev DataPort := BitVec 12

/-- A checksum, one word of `ENC_ROM`, 16 bits (R6 `CHK_W`). -/
abbrev Checksum := BitVec 16

/-- A code integer, and one word of `DEC_ROM` (an error pattern), 20 bits (R6 `CODE_W`, `EP_W`). -/
abbrev CodeInt := BitVec 20

/-- A packed codeword `CW24`, the argument of a request and the data of a response, 24 bits (R32, R44, R46). -/
abbrev Cw24 := BitVec 24

/-- The divider's working width, 32 bits (R6 `REG_W`). -/
abbrev Word32 := BitVec 32

/-- The fault-code register's width, 2 bits (R22). -/
abbrev ErrCode := BitVec 2

/-- A request word `REQ = op ‖ arg`, 25 bits (R44). -/
abbrev Request := BitVec 25

/-- A response word `RSP = err ‖ data`, 26 bits (R46). -/
abbrev Response := BitVec 26

end Sys2Proof
end

