-- ==== Sys2Proof/Config.lean ====
section
/-! DEFINITION. The four hardwired constants (`10_state.md` rule R23), the ROM depths (`00_scope.md` rule R6), the
configuration, which is the contents of the two ROMs (`43_rom_contents.md` rule R94), and the free values. -/

namespace Sys2Proof

/-- R7, R23: the generator polynomial `g(X) = X^11 + X^10 + X^6 + X^5 + X^4 + X^2 + 1`. -/
def genpol : Word32 := 0x00000C75

/-- R7, R23: the alignment seed, the term `X^18`. -/
def x18 : Word32 := 0x00040000

/-- R7, R23: the comparison threshold and the divisor of `AUX / X^11`, the term `X^11`. -/
def x11 : Word32 := 0x00000800

/-- R7, R23: the mask region, bits 31:11. -/
def mask8 : Word32 := 0xFFFFF800

/-- R6 `ENC_DEPTH`. -/
def encDepth : Nat := 256

/-- R6 `DEC_DEPTH`. -/
def decDepth : Nat := 4096

/-- R94: the two ROMs as the host supplies them, before any instance exists; a list can have the wrong length, which
is what rule R106 is about. -/
structure Config where
  encRom : List Checksum
  decRom : List CodeInt
deriving DecidableEq, Repr

/-- FREE VALUE (U11, R26, R116; log 6): what `CODE` holds after the n-th reset applied to a run. -/
opaque Config.freeCode : Nat → CodeInt

/-- FREE VALUE (U11, R26, R116; log 6): what `PAT` holds after the n-th reset applied to a run. -/
opaque Config.freePat : Nat → Word32

/-- FREE VALUE (U11, R26, R116; log 6): what `AUX` holds after the n-th reset applied to a run. -/
opaque Config.freeAux : Nat → Word32

end Sys2Proof
end

