-- ==== Sys2Proof/Machine/Polynomial.lean ====
section
/-! DEFINITION. Weight, parity and the GF(2) polynomial view (`00_scope.md` rules R9, R10), written independently of the
divider: the ROM contents are constrained in these terms, and the divider is stated to compute `pmod`. -/

namespace Sys2Proof.Machine

/-- The number of 1 bits among the low `n` bits of `x`. -/
def weightBelow (x : Word32) : Nat → Nat
  | 0 => 0
  | n + 1 => weightBelow x n + (x.getLsbD n).toNat

/-- R9: `wt(x)`. -/
def weight (x : Word32) : Nat := weightBelow x 32

/-- R9: `par(x) = wt(x) & 1`. -/
def parity (x : Word32) : BitVec 1 := BitVec.ofNat 1 (weight x)

/-- One digit of the remainder, most significant first: multiply by `X`, add the coefficient, reduce modulo `g`. -/
def pmodDigit (r : Word32) (c : Bool) : Word32 :=
  let r' := (r <<< 1) ^^^ (BitVec.ofBool c).setWidth 32
  if r'.getLsbD 11 then r' ^^^ genpol else r'

/-- The remainder of the low `n` coefficients of `p` placed below the running remainder `r`. -/
def pmodFrom (p : Word32) : Nat → Word32 → Word32
  | 0, r => r
  | n + 1, r => pmodFrom p n (pmodDigit r (p.getLsbD n))

/-- R10: `pmod(p)`, the remainder of `p`, read as a polynomial over GF(2), divided by `g`. -/
def pmod (p : Word32) : Word32 := pmodFrom p 32 0

/-- R10: the product, over GF(2), of `g` and the polynomial of the low `n` bits of `q`. -/
def genMultiple (q : Word32) : Nat → Word32
  | 0 => 0
  | n + 1 => genMultiple q n ^^^ (if q.getLsbD n then genpol <<< n else 0)

end Sys2Proof.Machine
end

