-- ==== Sys2Proof/Syntax.lean ====
section
/-! DEFINITION. The operation set: two operations, one constructor each (`30_encoding.md` rules R43, R44). -/

namespace Sys2Proof

/-- R43: `ENC` and `DEC` are the whole instruction set. The operands are the fields of R44's two formats. -/
inductive Instr where
  /-- Format E (R44, R54): the reserved field `arg[23:12]` and the data value `arg[11:0]`. -/
  | enc (rsvd : BitVec 12) (v : DataPort)
  /-- Format D (R44, R78): the three received bytes `arg[23:16]`, `arg[15:8]`, `arg[7:0]`. -/
  | dec (b0 b1 b2 : Byte)
deriving DecidableEq, Repr

end Sys2Proof
end

