-- ==== Sys2Proof/WellFormed.lean ====
section
/-! DEFINITION. What makes an instruction well formed (`30_encoding.md` rule R51), what puts a data value in the encoder's domain
(`40_encoder.md` rule R55), and what makes a configuration well formed (`43_rom_contents.md` rule R94), one check a clause. -/

namespace Sys2Proof

/-- R51, R52: both operation codes are assigned and every argument of either is a legal request, and the widths of the
operands are the widths of the fields; so every instruction is well formed. -/
def Instr.wellFormed : Instr → Bool
  | .enc _ _ => true
  | .dec _ _ _ => true

/-- R51 (b), R55, D2: the request lies in the codec's valid domain; an `ENC` outside it is legal and completes with the
`OutOfRange` fault. -/
def Instr.inDomain : Instr → Bool
  | .enc rsvd v => rsvd == 0 && decide (v ≤ 0xFF)
  | .dec _ _ _ => true

/-- R48: the 11-bit parity field that the decoder reassembles from a checksum, `(cs[7:0] << 3) | cs[15:13]`. -/
def parityField (cs : Checksum) : BitVec 11 :=
  cs.extractLsb' 0 8 ++ cs.extractLsb' 13 3

namespace Config

/-- R94 (a), R106: both ROMs have exactly their depth. -/
def lengthsOk (c : Config) : Bool :=
  c.encRom.length == encDepth && c.decRom.length == decDepth

/-- R95: the two entries the source states. -/
def encStatedOk (c : Config) : Bool :=
  c.encRom[0]? == some 0x0000 && c.encRom[1]? == some 0xB08E

/-- R96: the parity field of the word at `v` is `pmod(v << 11)`. -/
def encWordOk (cs : Checksum) (v : Nat) : Bool :=
  (parityField cs).setWidth 32 == Machine.pmod (BitVec.ofNat 32 v <<< 11)

/-- R96, for every word of the encode ROM. -/
def encSyndromeOk (c : Config) : Bool :=
  c.encRom.zipIdx.all fun (cs, v) => encWordOk cs v

/-- R100: the word at syndrome zero is zero. -/
def decZeroOk (c : Config) : Bool :=
  c.decRom[0]? == some 0

/-- R101: the word at the syndrome of the single error at bit `i` agrees with that error on bits 19:11. -/
def decSingleOk (c : Config) (i : Nat) : Bool :=
  match c.decRom[(Machine.pmod (BitVec.twoPow 32 i)).toNat]? with
  | some ep => ep >>> 11 == BitVec.twoPow 20 i >>> 11
  | none => false

/-- R101, for each of the 19 bit positions of a code integer. -/
def decSinglesOk (c : Config) : Bool :=
  (List.range 19).all c.decSingleOk

/-- R94 (b), (c): the contents meet rules R95, R96, R100 and R101. -/
def contentsOk (c : Config) : Bool :=
  c.encStatedOk && c.encSyndromeOk && c.decZeroOk && c.decSinglesOk

/-- R94: the configuration is well formed. -/
def wellFormed (c : Config) : Bool :=
  c.lengthsOk && c.contentsOk

end Config

end Sys2Proof
end

