-- ==== Sys2Proof/Decode.lean ====
section
/-! DEFINITION. The decoder of requests, total on every number and rejecting by name, and the encoder, both from
`30_encoding.md` rule R44. -/

namespace Sys2Proof

/-- Why a number is no request. -/
inductive DecodeError where
  /-- R44, R52: a request is 25 bits; a number of `2^25` or more is no request (log 10). -/
  | widerThanRequest
deriving DecidableEq, Repr

/-- R44: `op = REQ[24]` alone selects the format; all `2^25` requests decode (R51, R52). -/
def decodeRequest (r : Request) : Instr :=
  if r.getLsbD 24 then
    .dec (r.extractLsb' 16 8) (r.extractLsb' 8 8) (r.extractLsb' 0 8)
  else
    .enc (r.extractLsb' 12 12) (r.extractLsb' 0 12)

/-- The request word a number stands for, where there is one (R44). -/
def requestOf (w : Nat) : Except DecodeError Request :=
  if w < 2 ^ 25 then .ok (BitVec.ofNat 25 w) else .error .widerThanRequest

/-- The instruction a number stands for. -/
def decodeWord (w : Nat) : Except DecodeError Instr :=
  (requestOf w).map decodeRequest

/-- R44: the request word of an instruction, `op ‖ arg`. -/
def encode : Instr → Request
  | .enc rsvd v => 0#1 ++ rsvd ++ v
  | .dec b0 b1 b2 => 1#1 ++ b0 ++ b1 ++ b2

/-- The number, of `nbits` bits, that `spec/opcode_table.json` numbers as a row's word: every bit above is zero. -/
def tableWord (nbits w : Nat) : Nat := w % 2 ^ nbits

/-- What the decoder reads from a word of `spec/opcode_table.json`'s numbering; none where it refuses. -/
def decodeTableWord (nbits w : Nat) : Option Instr :=
  match decodeWord (tableWord nbits w) with
  | .ok i => some i
  | .error _ => none

end Sys2Proof
end

