-- ==== Sys2Proof/Machine/Operands.lean ====
section
/-! DEFINITION. Operand assembly and the data formats (`30_encoding.md` rules R47 to R50, `42_decoder.md` rules R80, R85): every
way a field of a request, a checksum, a codeword or a code integer is put together or taken apart. -/

namespace Sys2Proof.Machine

/-- R44 format E: the 24-bit argument of `ENC`, `rsvd ‖ v`. -/
def encArg (rsvd : BitVec 12) (v : DataPort) : Cw24 := rsvd ++ v

/-- R32, R44 format D: `CW24 = b0 ‖ b1 ‖ b2`, the argument of `DEC` and the data of `ENC`. -/
def packCodeword (b0 b1 b2 : Byte) : Cw24 := b0 ++ b1 ++ b2

/-- R28, R50 (a): the encode lookup's address and the codeword's data byte, `arg[7:0]`. -/
def dataByte (arg : Cw24) : Byte := arg.extractLsb' 0 8

/-- R48, R57: `b1 = cs[7:0]`. -/
def checksumLow (cs : Checksum) : Byte := cs.extractLsb' 0 8

/-- R48, R57: `b2 = cs[15:8]`. -/
def checksumHigh (cs : Checksum) : Byte := cs.extractLsb' 8 8

/-- R50 (b), R80: `(b0 << 11) | (b1 << 3) | (b2 >> 5)`, in 20 bits. -/
def reassemble (b0 b1 b2 : Byte) : CodeInt :=
  (b0.setWidth 20 <<< 11) ||| (b1.setWidth 20 <<< 3) ||| (b2 >>> 5).setWidth 20

/-- R29: the decode lookup's address, `zext_12(PAT[10:0])`. -/
def syndromeAddress (pat : Word32) : BitVec 12 := (pat.extractLsb' 0 11).setWidth 12

/-- R84: the correction of the code integer by an error pattern, conditional as the source writes it (D24). -/
def correct (code ep : CodeInt) : CodeInt := if ep ≠ 0 then code ^^^ ep else code

/-- R85: `value = CODE >> 11`, delivered zero-extended in the response data (R46). -/
def extractValue (code : CodeInt) : Cw24 := (code >>> 11).setWidth 24

/-- R66, R67: the cancellation operand `(AUX / X^11) * GENPOL`, a logical shift and a 32-bit product. -/
def cancelOperand (aux : Word32) : Word32 := (aux >>> 11) * genpol

end Sys2Proof.Machine
end

