-- ==== Sys2Proof/Machine/Flags.lean ====
section
/-! DEFINITION. The block's only flag is the fault code `ERR` (`10_state.md` rule R22; there are no condition codes): its
values, and every test the block makes (`40_encoder.md` rule R55, `41_syndrome.md` rules R63 to R65). -/

namespace Sys2Proof.Machine

/-- R22, R46: no fault. -/
def errNone : ErrCode := 0

/-- R22, R104: `OutOfRange`. -/
def errOutOfRange : ErrCode := 1

/-- R22, R104: `TableIntegrity`, reserved for the configuration and never written to `ERR`. -/
def errTableIntegrity : ErrCode := 2

/-- R55, R105: `ENC` faults exactly when `arg[23:8] != 0`. -/
def outOfRange (arg : Cw24) : Bool := arg.extractLsb' 8 16 != 0

/-- R63: the threshold test `PAT < X11`, unsigned. -/
def belowThreshold (pat : Word32) : Bool := decide (pat < x11)

/-- R64: the loop condition `(PAT & MASK8) != 0`. -/
def inMaskRegion (pat : Word32) : Bool := pat &&& mask8 != 0

/-- R65: the alignment test `(AUX & PAT) != 0`. -/
def overlaps (aux pat : Word32) : Bool := aux &&& pat != 0

end Sys2Proof.Machine
end

