-- ==== Sys2Proof/Machine/State.lean ====
section
/-! DEFINITION. The state of one instance of the codec (`10_state.md` rule R13), the host's side of its ports, the
reasons to stop, and the state after reset (rule R26). -/

namespace Sys2Proof.Machine

/-- R16: the six values of `PHASE`. -/
inductive Phase where
  /-- No operation in progress; a request can be accepted. -/
  | idle
  /-- `SYN_T`: the divider is about to make its threshold test. -/
  | synT
  /-- `SYN_W`: the divider is about to test its loop condition. -/
  | synW
  /-- `SYN_A`: the divider is aligning `AUX`. -/
  | synA
  /-- `SYN_X`: the divider is about to cancel the leading term. -/
  | synX
  /-- `FIX`: the decoder is about to look up, correct, extract and respond. -/
  | fix
deriving DecidableEq, Repr

/-- R27: the two read-only address spaces, each as the (word address, word) pairs that differ from the reference contents
(canonical form: `Memory.wf` in Ops.lean; log 8). The spaces are word-addressed, so the unit is the word. -/
structure Memory where
  encRom : List (Nat × Checksum)
  decRom : List (Nat × CodeInt)
deriving DecidableEq, Repr

/-- R13: everything one instance holds, and (the last four fields, the model's own) the host's side of its ports and the
counter of free values. The four constants of R23 are definitions (Config.lean); `BUSY` is `State.busy`. -/
structure State where
  /-- R16: the sequencing register. -/
  phase : Phase
  /-- R17: the code integer of the current `DEC`. -/
  code : CodeInt
  /-- R18: the divider's pattern; at the end the syndrome. -/
  pat : Word32
  /-- R19: the alignment register. -/
  aux : Word32
  /-- R21: the data of the last completed operation's response. -/
  res : Cw24
  /-- R22: the fault code of the last completed operation. -/
  err : ErrCode
  /-- R25, R27: the two ROMs. -/
  mem : Memory
  /-- R45, R121: the requests the host presents, in order, the first until it is accepted (log 2). -/
  reqs : List Request
  /-- R116: the reset input at this step and the following ones; where the list has ended it is not applied (log 3). -/
  rst : List Bool
  /-- R46: the responses emitted so far, oldest first (log 4). -/
  rsps : List Response
  /-- The number of free values drawn so far (log 6). -/
  free : Nat
deriving DecidableEq, Repr

/-- R13: `BUSY`, which is no register. -/
def State.busy (s : State) : Bool := s.phase != .idle

/-- R27: the two ROMs, by name. -/
inductive Rom where
  | encRom
  | decRom
deriving DecidableEq, Repr

/-- Why an instance cannot come to be. No step of an instance faults (R104, R110: `OutOfRange` is a response). -/
inductive Fault where
  /-- R104 code 2, R106, U9: raised by `instantiate` on a configuration with a ROM of the wrong length, before any instance
  exists; never by a step. It records which ROM and its length (R104). Safe: nothing runs. -/
  | tableIntegrity (rom : Rom) (length : Nat)
deriving DecidableEq, Repr

/-- Why the model will not run. -/
inductive Refusal where
  /-- An instruction without a meaning; no arm of `exec` answers it. Safe. -/
  | notModelled (mnemonic : String)
  /-- R94, U10: raised by `instantiate` on a configuration of the right lengths whose contents break rule R95, R96, R100 or
  R101; never by a step. Safe: nothing runs. -/
  | romContents
deriving DecidableEq, Repr

/-- R26: `PHASE = IDLE`, `RES = 0x000000`, `ERR = 0`. `CODE`, `PAT`, `AUX` are unspecified there; DESIGN CHOICE zero (log 5).
The ROMs hold the default configuration (R94; no address listed, log 9). Nothing is presented (log 2, 3). -/
def State.reset : State where
  phase := .idle
  code := 0
  pat := 0
  aux := 0
  res := 0
  err := 0
  mem := ⟨[], []⟩
  reqs := []
  rst := []
  rsps := []
  free := 0

end Sys2Proof.Machine
end

