-- ==== Sys2Proof/Machine/Ops.lean ====
section
/-! DEFINITION. The named operations: reading and loading the ROMs (`20_memory.md` rules R28, R29; `43_rom_contents.md` rule R94),
responding (`30_encoding.md` rule R46), taking the one fault (`60_exceptions.md` rule R110), reset (`70_reset_and_hazards.md` rule
R116), and the host's ports. There is no operation that writes memory (R11) and no return from a fault (R111). -/

namespace Sys2Proof.Machine

/-- R98, R94: what an address of `ENC_ROM` that the state does not list reads as. -/
def encUnlisted (a : Nat) : Checksum := rowWord encRomRows a

/-- R102, R94: what an address of `DEC_ROM` that the state does not list reads as. -/
def decUnlisted (a : Nat) : CodeInt := rowWord decRomRows a

/-- The word at an address: the listed one, else what an unlisted address reads as. -/
def readCells {w : Nat} (unlisted : Nat → BitVec w) (cells : List (Nat × BitVec w)) (a : Nat) : BitVec w :=
  (cells.lookup a).getD (unlisted a)

/-- The canonical form of one space: addresses strictly rising and inside the space, no entry equal to what an unlisted
address reads as. -/
abbrev CellsWf {w : Nat} (depth : Nat) (unlisted : Nat → BitVec w) (cells : List (Nat × BitVec w)) : Prop :=
  cells.Pairwise (fun p q => p.1 < q.1) ∧ ∀ p ∈ cells, p.1 < depth ∧ p.2 ≠ unlisted p.1

/-- The canonical form of the memory. -/
abbrev Memory.wf (m : Memory) : Prop :=
  CellsWf encDepth encUnlisted m.encRom ∧ CellsWf decDepth decUnlisted m.decRom

/-- R28, R56: `ENC_ROM[a]`; the 8-bit address is always inside the space. -/
def Memory.readEnc (m : Memory) (a : Byte) : Checksum := readCells encUnlisted m.encRom a.toNat

/-- R29, R83: `DEC_ROM[a]`; the 12-bit address is always inside the space. -/
def Memory.readDec (m : Memory) (a : BitVec 12) : CodeInt := readCells decUnlisted m.decRom a.toNat

/-- The cells of `words`, placed from address `a` on, that differ from the reference words `ref`. -/
def overlayFrom {w : Nat} : Nat → List (BitVec w) → List (BitVec w) → List (Nat × BitVec w)
  | a, r :: ref, v :: words =>
    if v = r then overlayFrom (a + 1) ref words else (a, v) :: overlayFrom (a + 1) ref words
  | _, _, _ => []

/-- R94, R117: the memory that holds a configuration's contents. -/
def Memory.ofConfig (c : Config) : Memory :=
  ⟨overlayFrom 0 encRomReference c.encRom, overlayFrom 0 decRomReference c.decRom⟩

/-- R46: a response ends an operation: `ERR <- err`, `RES <- data`, `PHASE <- IDLE`, and `RSP = err ‖ data` is emitted. -/
def complete (err : ErrCode) (data : Cw24) (s : State) : State :=
  { s with err := err, res := data, phase := .idle, rsps := s.rsps ++ [err ++ data] }

/-- R11, R46: `respond(data)`, the normal response. -/
def respond (data : Cw24) (s : State) : State := complete errNone data s

/-- R11, R110: TAKING THE FAULT: `ERR <- 1`, `RES <- 0x000000`, `PHASE` is `IDLE`, the response `err=1 data=0x000000`. Nothing is
saved and control goes nowhere. R111: there is no return from it and nothing to restore. -/
def raiseOutOfRange (s : State) : State := complete errOutOfRange 0 s

/-- R116: reset, in any phase: `PHASE <- IDLE`, `RES <- 0`, `ERR <- 0`; the working registers take free values (log 6); the ROMs
and the host's side are not affected, and an operation in progress gives no response. -/
def resetBlock (s : State) : State :=
  { s with
    phase := .idle
    res := 0
    err := errNone
    code := Config.freeCode s.free
    pat := Config.freePat s.free
    aux := Config.freeAux s.free
    free := s.free + 1 }

/-- R116: the host applies reset at this step. -/
def resetApplied (s : State) : Bool := s.rst.head?.getD false

/-- One step of the host's reset input is used up (log 3). -/
def tick (s : State) : State := { s with rst := s.rst.tail }

/-- R45: the request the host presents, which is the fetch of this block, and the state once it is accepted. -/
def fetchRequest (s : State) : Option (Request × State) :=
  match s.reqs with
  | [] => none
  | r :: later => some (r, { s with reqs := later })

/-- R126: the host adds a request behind those it already presents. -/
def hostRequests (r : Request) (s : State) : State := { s with reqs := s.reqs ++ [r] }

/-- R116, R126: the host applies reset at the next step. -/
def hostResets (s : State) : State := { s with rst := true :: s.rst.tail }

/-- R94, R106, R117: building an instance from a configuration, before any request: a ROM of the wrong length is
`TableIntegrity`, which records the ROM and its length (R104; the encode ROM is checked first, log 15), contents that break R94
(b) or (c) are refused, else the instance is in its reset state with those ROMs. -/
def instantiate (c : Config) : Host.Outcome State Fault Refusal :=
  if c.encRom.length ≠ encDepth then .fault (.tableIntegrity .encRom c.encRom.length)
  else if c.decRom.length ≠ decDepth then .fault (.tableIntegrity .decRom c.decRom.length)
  else if c.contentsOk then .next { State.reset with mem := Memory.ofConfig c }
  else .refused .romContents

end Sys2Proof.Machine
end

