-- ==== Sys2Proof/Machine/Divider.lean ====
section
/-! DEFINITION. The syndrome polynomial divider, the internal function `SYND` of `DEC` (`41_syndrome.md`): one definition per
micro-step of `10_state.md` rule R16. -/

namespace Sys2Proof.Machine

/-- R62: `PAT <- p`, `AUX <- X18`; the threshold test is next. -/
def startDivider (p : Word32) (s : State) : State :=
  { s with pat := p, aux := x18, phase := .synT }

/-- R63 (`SYN_T`): the threshold test. -/
def thresholdTest (s : State) : State :=
  { s with phase := bif belowThreshold s.pat then .fix else .synW }

/-- R64 (`SYN_W`): the loop test. -/
def loopTest (s : State) : State :=
  { s with phase := bif inMaskRegion s.pat then .synA else .fix }

/-- R65 (`SYN_A`): the alignment step; the test is made before the shift. -/
def alignStep (s : State) : State :=
  bif overlaps s.aux s.pat then { s with phase := .synX } else { s with aux := s.aux >>> 1 }

/-- R66 (`SYN_X`): the cancellation. -/
def cancelStep (s : State) : State :=
  { s with pat := s.pat ^^^ cancelOperand s.aux, phase := .synW }

/-- One micro-step of the divider; outside its four phases, nothing. -/
def dividerStep (s : State) : State :=
  match s.phase with
  | .idle => s
  | .synT => thresholdTest s
  | .synW => loopTest s
  | .synA => alignStep s
  | .synX => cancelStep s
  | .fix => s

/-- R61: `n` micro-steps of `SYND`; it has returned (R68) once the phase is `FIX`. -/
def divide : Nat → State → State
  | 0, s => s
  | n + 1, s => divide n (dividerStep s)

/-- R61, R68: `SYND(p)`, the value of `PAT` on return, if the divider returns within `n` micro-steps (R75: for some `p` it
never does). -/
def synd (n : Nat) (p : Word32) : Option Word32 :=
  let s := divide n (startDivider p State.reset)
  if s.phase = .fix then some s.pat else none

end Sys2Proof.Machine
end

