-- ==== Sys2Proof/Machine/Decoder.lean ====
section
/-! DEFINITION. The decoder family: `DEC` (`42_decoder.md`), its first step and its last. -/

namespace Sys2Proof.Machine

/-- R79, R80: the first step of `DEC`: `CODE` is reassembled, the divider is initialised with it, `PHASE <- SYN_T`. `RES` and
`ERR` keep the previous response. The steps that follow are the divider's and `fixStep`, taken by `step` (log 1). -/
def execDec (b0 b1 b2 : Byte) (s : State) : Host.Outcome State Fault Refusal :=
  let code := reassemble b0 b1 b2
  .next (startDivider (code.setWidth 32) { s with code := code })

/-- R82 (`FIX`): look up (R83), correct (R84), extract (R85) and respond. -/
def fixStep (s : State) : State :=
  let ep := s.mem.readDec (syndromeAddress s.pat)
  let code := correct s.code ep
  respond (extractValue code) { s with code := code }

end Sys2Proof.Machine
end

