-- ==== Sys2Proof/Machine/Encoder.lean ====
section
/-! DEFINITION. The encoder family: `ENC` (`40_encoder.md`). -/

namespace Sys2Proof.Machine

/-- R54 to R57: the whole operation is one step. -/
def execEnc (rsvd : BitVec 12) (v : DataPort) (s : State) : Host.Outcome State Fault Refusal :=
  let arg := encArg rsvd v
  bif outOfRange arg then
    .next (raiseOutOfRange s)
  else
    let b0 := dataByte arg
    let cs := s.mem.readEnc b0
    .next (respond (packCodeword b0 (checksumLow cs) (checksumHigh cs)) s)

end Sys2Proof.Machine
end

