-- ==== Sys2Proof/Machine/Dispatch.lean ====
section
/-! DEFINITION. The dispatch: one arm per operation. -/

namespace Sys2Proof.Machine

-- The first step of an accepted request (30_encoding.md rule R45).
def exec (i : Instr) (s : State) : Host.Outcome State Fault Refusal :=
  match i with
  | .enc rsvd v => Sys2Proof.Machine.execEnc rsvd v s
  | .dec b0 b1 b2 => Sys2Proof.Machine.execDec b0 b1 b2 s

end Sys2Proof.Machine
end

