-- ==== Sys2Proof/Machine/Sequencer.lean ====
section
/-! DEFINITION. What a step does in each phase (`10_state.md` rule R16), given how an accepted request is executed; and the
placing of a request word for the next step. -/

namespace Sys2Proof.Machine

/-- R45: in `IDLE`, the presented request is decoded and executed; with none presented the block waits (log 7). -/
def acceptStep (run : Instr → State → Host.Outcome State Fault Refusal) (s : State) :
    Host.Outcome State Fault Refusal :=
  match fetchRequest s with
  | none => .next s
  | some (r, s') => run (decodeRequest r) s'

/-- R16: the micro-step of the phase. -/
def phaseStep (run : Instr → State → Host.Outcome State Fault Refusal) (s : State) :
    Host.Outcome State Fault Refusal :=
  match s.phase with
  | .idle => acceptStep run s
  | .synT => .next (thresholdTest s)
  | .synW => .next (loopTest s)
  | .synA => .next (alignStep s)
  | .synX => .next (cancelStep s)
  | .fix => .next (fixStep s)

/-- R116: reset cuts in before anything else in its step (log 3). -/
def stepWith (run : Instr → State → Host.Outcome State Fault Refusal) (s : State) :
    Host.Outcome State Fault Refusal :=
  bif resetApplied s then .next (resetBlock (tick s)) else phaseStep run (tick s)

/-- The request is presented first, to an idle block, with reset not applied (log 11). -/
def presentNext (r : Request) (s : State) : State :=
  { s with phase := .idle, rst := [], reqs := r :: s.reqs }

end Sys2Proof.Machine
end

