-- ==== Sys2Proof/Machine/Step.lean ====
section
/-! DEFINITION. One step of the block, and the placing of an instruction where the next step takes it. -/

namespace Sys2Proof.Machine

/-- One step (R16, R45, R116). -/
def step (s : State) : Host.Outcome State Fault Refusal := stepWith exec s

/-- The state in which the host presents the instruction of a word of `spec/opcode_table.json` to an idle block, so that the
next step runs it; a number that is no request can be presented by nobody and leaves the state as it is (log 11). -/
def State.withFetchWord (s : State) (nbits w : Nat) : State :=
  match requestOf (tableWord nbits w) with
  | .ok r => presentNext r s
  | .error _ => s

end Sys2Proof.Machine
end

