-- ==== Sys2Proof/Safety.lean ====
section
/-! DEFINITION. The terms in which claims about runs are made: what a memory must hold (`43_rom_contents.md` rule R94), what an
operation answers (`40_encoder.md` rule R54, `42_decoder.md` rule R78), runs, and the invariant (`41_syndrome.md` rule R69). -/

namespace Sys2Proof.Machine

/-- `n` steps from `s`. -/
def runs : Nat → State → Host.Outcome State Fault Refusal
  | 0, s => .next s
  | n + 1, s =>
    match step s with
    | .next t => runs n t
    | .fault f => .fault f
    | .refused r => .refused r

/-- The host applies reset at no coming step. -/
def State.NoReset (s : State) : Prop := ∀ b ∈ s.rst, b = false

/-- The code integer that the encoder's word for `v` is received as, with the checksum `cs` (R48, R49, R60). -/
def codeInteger (v : Byte) (cs : Checksum) : CodeInt :=
  reassemble v (checksumLow cs) (checksumHigh cs)

/-- `zext_32` of a code integer: the pattern whose syndrome is wanted (R61, R79). -/
def pattern (c : CodeInt) : Word32 := c.setWidth 32

/-- R60, R96: every codeword's code integer has remainder zero. -/
def Memory.EncValid (m : Memory) : Prop :=
  m.readEnc 0 = 0x0000 ∧ m.readEnc 1 = 0xB08E ∧
    ∀ v : Byte, (parityField (m.readEnc v)).setWidth 32 = pmod (v.setWidth 32 <<< 11)

/-- R100, R101: syndrome zero means no correction; a single error's entry agrees with it on bits 19:11. -/
def Memory.DecValid (m : Memory) : Prop :=
  m.readDec 0 = 0 ∧
    ∀ i, i < 19 → m.readDec (syndromeAddress (pmod (BitVec.twoPow 32 i))) >>> 11 = BitVec.twoPow 20 i >>> 11

/-- R94 (b), (c): the contents of the two ROMs are well formed. -/
def Memory.Valid (m : Memory) : Prop := m.EncValid ∧ m.DecValid

/-- R54: the codeword `ENC v` responds with. -/
def encodedWord (m : Memory) (v : Byte) : Cw24 :=
  packCodeword v (checksumLow (m.readEnc v)) (checksumHigh (m.readEnc v))

/-- R78, with the syndrome as rule R70 gives it: the data `DEC` responds with, for the code integer `c`. -/
def decodedValue (m : Memory) (c : CodeInt) : Cw24 :=
  extractValue (correct c (m.readDec (syndromeAddress (pmod (pattern c)))))

/-- R46: the response of an operation, by its request alone. -/
def responseOf (m : Memory) : Instr → Response
  | .enc rsvd v =>
    bif outOfRange (encArg rsvd v) then errOutOfRange ++ (0 : Cw24)
    else errNone ++ encodedWord m (dataByte (encArg rsvd v))
  | .dec b0 b1 b2 => errNone ++ decodedValue m (reassemble b0 b1 b2)

/-- The `DEC` request whose argument is the packed codeword `cw` (R32, R44). -/
def decOf (cw : Cw24) : Instr :=
  .dec (cw.extractLsb' 16 8) (cw.extractLsb' 8 8) (cw.extractLsb' 0 8)

/-- R46: presented to the block in `s`, the operation `i` is answered by the one response `rsp`: within 35 steps (R124) the
block is idle again, has emitted `rsp` and nothing else, holds it in `ERR` and `RES`, and has accepted no other request. -/
def Answers (i : Instr) (s : State) (rsp : Response) : Prop :=
  ∃ n u, n ≤ 35 ∧ runs n (presentNext (encode i) s) = .next u ∧ u.phase = .idle ∧
    u.rsps = s.rsps ++ [rsp] ∧ u.err ++ u.res = rsp ∧ u.mem = s.mem ∧ u.reqs = s.reqs

/-- R74: how many of the first `n` micro-steps of the divider are made in the phase `ph`. -/
def visits (ph : Phase) : Nat → State → Nat
  | 0, _ => 0
  | n + 1, s => (if s.phase = ph then 1 else 0) + visits ph n (dividerStep s)

/-- R74: how many of the first `n` micro-steps of the divider shift `AUX`. -/
def shifts : Nat → State → Nat
  | 0, _ => 0
  | n + 1, s => (if s.phase = .synA ∧ overlaps s.aux s.pat = false then 1 else 0) + shifts n (dividerStep s)

/-- R69: `AUX = 2^k` with `11 ≤ k ≤ 18`, every set bit of `PAT` at or below `k`, and (R70) `PAT` has kept the remainder of
`CODE`, which is below `2^19` (R80). -/
def AlignedAt (k : Nat) (s : State) : Prop :=
  11 ≤ k ∧ k ≤ 18 ∧ s.aux = BitVec.twoPow 32 k ∧ s.pat.toNat < 2 ^ (k + 1) ∧
    pmod s.pat = pmod (pattern s.code) ∧ s.code.toNat < 2 ^ 19

/-- R69, R71, R79, R81: what holds of the working registers in each phase of a `DEC`. -/
def DividerInv (s : State) : Prop :=
  match s.phase with
  | .idle => True
  | .synT => s.aux = x18 ∧ s.pat = pattern s.code ∧ s.code.toNat < 2 ^ 19
  | .synW => ∃ k, AlignedAt k s
  | .synA => inMaskRegion s.pat = true ∧ ∃ k, AlignedAt k s
  | .synX => ∃ k, AlignedAt k s ∧ s.pat.getLsbD k = true
  | .fix => s.pat = pmod (pattern s.code) ∧ s.pat < x11 ∧ s.code.toNat < 2 ^ 19

/-- R22, R110: `ERR` is 0 or 1, and 1 only beside `RES = 0`. -/
def FaultInv (s : State) : Prop := s.err = errNone ∨ (s.err = errOutOfRange ∧ s.res = 0)

/-- What every step keeps: the memory's canonical form, the fault register's rule, and the divider's invariant. -/
def State.Inv (s : State) : Prop := s.mem.wf ∧ FaultInv s ∧ DividerInv s

/-- R75: the divider is at work on a pattern with a bit at or above position 19. -/
def Hung (s : State) : Prop :=
  2 ^ 19 ≤ s.pat.toNat ∧ s.aux.toNat ≤ 2 ^ 18 ∧ s.phase ≠ .idle ∧ s.phase ≠ .fix

end Sys2Proof.Machine
end

