-- ==== Sys2Proof/Certificates/Slice0/Obligations.lean ====
section
/-! DEFINITION. The statements for the provers. A statement whose docstring names the spec's sentence under "the spec's inference"
formalises a rule that the spec itself marks as derived; one that names a log entry rests on the model's choice. -/

open Sys2Proof Sys2Proof.Machine

/-! ## Requests -/

/-- R44, and the round trip of the encoding it gives: no bit of an operand is dropped, for every operation and operand. -/
def Obligations.DecodeOfEncodeIsTheInstruction : Prop :=
  ∀ i : Instr, i.wellFormed = true →
    decodeRequest (encode i) = i ∧ decodeWord (encode i).toNat = .ok i ∧
      decodeTableWord 32 (encode i).toNat = some i

/-- R51, R52: every request word has one meaning, so encoding what is decoded gives the word back. -/
def Obligations.EncodeOfDecodeIsTheRequest : Prop :=
  ∀ r : Request, encode (decodeRequest r) = r

/-- R44: `op = REQ[24]` selects between the two formats, whose fields are at the bits of the table; match and mask. -/
def Obligations.OpBitSelectsTheFormat : Prop :=
  ∀ r : Request,
    (r &&& 0x1000000 = 0x0000000 →
      decodeRequest r = .enc (r.extractLsb' 12 12) (r.extractLsb' 0 12)) ∧
    (r &&& 0x1000000 = 0x1000000 →
      decodeRequest r = .dec (r.extractLsb' 16 8) (r.extractLsb' 8 8) (r.extractLsb' 0 8)) ∧
    (r &&& 0x1000000 = 0x0000000 ∨ r &&& 0x1000000 = 0x1000000)

/-- Request words of the spec's programs and fault vectors (95_test_vectors.md V6, P1, P3) decode to their operations. -/
def Obligations.SpecWordsDecode : Prop :=
  decodeTableWord 32 0x0000001 = some (.enc 0x000 0x001) ∧
  decodeTableWord 32 0x0001000 = some (.enc 0x001 0x000) ∧
  decodeTableWord 32 0x0000FFF = some (.enc 0x000 0xFFF) ∧
  decodeTableWord 32 0x1018EB0 = some (.dec 0x01 0x8E 0xB0) ∧
  decodeTableWord 32 0x1FFD6D0 = some (.dec 0xFF 0xD6 0xD0)

/-- R51 (a), R52: every number of 25 bits decodes. The second clause is the model's choice (log 10): a number of `2^25` or more
is no request and is rejected by name. -/
def Obligations.ExactlyTheRequestsDecode : Prop :=
  ∀ w : Nat, (w < 2 ^ 25 → ∃ i, decodeWord w = .ok i) ∧
    (2 ^ 25 ≤ w → decodeWord w = .error .widerThanRequest)

/-! ## ENC -/

/-- R54: the whole pseudocode of `ENC`, from an idle block: what it writes, and that it writes nothing else; and the rule's corner
cases and example, for the ROM contents that rule R95 states. -/
def Obligations.EncFollowsItsPseudocode : Prop :=
  (∀ (s : State) (rsvd v : BitVec 12), s.phase = .idle →
    (((rsvd ++ v : Cw24).extractLsb' 8 16 ≠ 0) →
      exec (.enc rsvd v) s =
        .next { s with err := 1, res := 0x000000, phase := .idle, rsps := s.rsps ++ [0x1000000] }) ∧
    (((rsvd ++ v : Cw24).extractLsb' 8 16 = 0) →
      let v8 : Byte := v.extractLsb' 0 8
      let cs := s.mem.readEnc v8
      let cw : Cw24 := v8 ++ cs.extractLsb' 0 8 ++ cs.extractLsb' 8 8
      exec (.enc rsvd v) s =
        .next { s with err := 0, res := cw, phase := .idle, rsps := s.rsps ++ [(0 : ErrCode) ++ cw] })) ∧
  (∀ s : State, s.phase = .idle → s.mem.readEnc 0 = 0x0000 → s.mem.readEnc 1 = 0xB08E →
    exec (.enc 0x000 0x000) s =
      .next { s with err := 0, res := 0x000000, phase := .idle, rsps := s.rsps ++ [0x0000000] } ∧
    exec (.enc 0x000 0x001) s =
      .next { s with err := 0, res := 0x018EB0, phase := .idle, rsps := s.rsps ++ [0x0018EB0] } ∧
    (∃ t, exec (.enc 0x000 0x0FF) s = .next t ∧ t.err = 0) ∧
    (∃ t, exec (.enc 0x000 0x100) s = .next t ∧ t.err = 1))

/-- R55: `ENC` faults exactly when its argument, as a 24-bit number, exceeds `0xFF`; a faulting `ENC` answers the same whatever
the ROMs hold, and no codeword. -/
def Obligations.EncFaultsExactlyAboveFF : Prop :=
  ∀ (s : State) (rsvd v : BitVec 12), s.phase = .idle →
    ∃ t, exec (.enc rsvd v) s = .next t ∧
      (t.err = errOutOfRange ↔ 0xFF < (rsvd ++ v : Cw24).toNat) ∧
      (0xFF < (rsvd ++ v : Cw24).toNat →
        t.res = 0 ∧ ∀ m, exec (.enc rsvd v) { s with mem := m } = .next { t with mem := m })

/-- R110: taking the fault, in the step that accepted the request: `ERR`, `RES`, `PHASE` and the response, and nothing else. -/
def Obligations.OutOfRangeFaultEntry : Prop :=
  ∀ (s : State) (rsvd v : BitVec 12), s.phase = .idle → 0xFF < (rsvd ++ v : Cw24).toNat →
    ∃ t, exec (.enc rsvd v) s = .next t ∧ t.err = 1 ∧ t.res = 0x000000 ∧ t.phase = .idle ∧
      t.rsps = s.rsps ++ [(1 : ErrCode) ++ (0x000000 : Cw24)] ∧
      t.code = s.code ∧ t.pat = s.pat ∧ t.aux = s.aux ∧ t.mem = s.mem ∧
      t.reqs = s.reqs ∧ t.rst = s.rst ∧ t.free = s.free

/-- The frame of `ENC`, in and out of range: no working register, no ROM word and nothing of the host's side but the response
record changes; the only writes are `RES`, `ERR` and (to `IDLE`, where it was) `PHASE`. -/
def Obligations.EncFrame : Prop :=
  ∀ (s t : State) (rsvd v : BitVec 12), s.phase = .idle → exec (.enc rsvd v) s = .next t →
    t.phase = s.phase ∧ t.code = s.code ∧ t.pat = s.pat ∧ t.aux = s.aux ∧
    (∀ a, t.mem.readEnc a = s.mem.readEnc a) ∧ (∀ a, t.mem.readDec a = s.mem.readDec a) ∧
    t.reqs = s.reqs ∧ t.rst = s.rst ∧ t.free = s.free ∧ ∃ rsp, t.rsps = s.rsps ++ [rsp]

/-- R59: `ENC` is a pure function of its argument and `ENC_ROM`, reads no working register and leaves none changed. -/
def Obligations.EncIsPure : Prop :=
  ∀ (s s' : State) (rsvd v : BitVec 12), s.phase = .idle → s'.phase = .idle →
    (∀ a, s.mem.readEnc a = s'.mem.readEnc a) →
    ∃ t t', exec (.enc rsvd v) s = .next t ∧ exec (.enc rsvd v) s' = .next t' ∧
      t.res = t'.res ∧ t.err = t'.err ∧ t = { s with res := t.res, err := t.err, rsps := t.rsps }

/-- The code is systematic (40_encoder.md section 2, the spec's inference "the data value appears unmodified in the codeword, as
`b0`, and after the decoder's reassembly as `CODE[18:11]`"). -/
def Obligations.EncIsSystematic : Prop :=
  ∀ (s t : State) (v : BitVec 12), s.phase = .idle → v ≤ 0xFF → exec (.enc 0 v) s = .next t →
    t.res.extractLsb' 16 8 = v.extractLsb' 0 8 ∧
    (reassemble (t.res.extractLsb' 16 8) (t.res.extractLsb' 8 8) (t.res.extractLsb' 0 8)).extractLsb' 11 8 =
      v.extractLsb' 0 8

/-! ## DEC -/

/-- R79: the first step of `DEC` loads `CODE`, `PAT` and `AUX` and goes to `SYN_T`; `RES` and `ERR` keep the previous response
in it and in every later step before the last. -/
def Obligations.DecFirstStep : Prop :=
  (∀ (s : State) (b0 b1 b2 : Byte), s.phase = .idle →
    exec (.dec b0 b1 b2) s =
      .next { s with
        code := reassemble b0 b1 b2
        pat := (reassemble b0 b1 b2).setWidth 32
        aux := 0x00040000
        phase := .synT }) ∧
  (∀ s t : State, s.phase ≠ .idle → s.phase ≠ .fix → resetApplied s = false → step s = .next t →
    t.res = s.res ∧ t.err = s.err)

/-- R80: the reassembled code integer: the formula, the bits each byte fills, `CODE[18:0] = arg[23:5]`, `CODE[19] = 0`, and the
largest value. -/
def Obligations.ReassemblyTakesTheTopNineteenBits : Prop :=
  ∀ b0 b1 b2 : Byte,
    reassemble b0 b1 b2 =
      ((b0.setWidth 20 <<< 11) ||| (b1.setWidth 20 <<< 3) ||| (b2.setWidth 20 >>> 5)) ∧
    (reassemble b0 b1 b2).extractLsb' 0 19 = (b0 ++ b1 ++ b2 : Cw24).extractLsb' 5 19 ∧
    (reassemble b0 b1 b2).extractLsb' 11 8 = b0 ∧ (reassemble b0 b1 b2).extractLsb' 3 8 = b1 ∧
    (reassemble b0 b1 b2).extractLsb' 0 3 = b2.extractLsb' 5 3 ∧
    (reassemble b0 b1 b2).getLsbD 19 = false ∧ (reassemble b0 b1 b2).toNat < 2 ^ 19 ∧
    reassemble 0xFF 0xFF 0xFF = 0x7FFFF

/-- `DEC` ignores `b2[4:0]` (42_decoder.md section 3, the spec's inference "two requests that differ only in those five bits give
the same response"), so also the checksum bits `cs[12:8]`. -/
def Obligations.DecIgnoresTheLowFiveBits : Prop :=
  (∀ (s : State) (b0 b1 b2 b2' : Byte), b2.extractLsb' 5 3 = b2'.extractLsb' 5 3 →
    exec (.dec b0 b1 b2) s = exec (.dec b0 b1 b2') s) ∧
  (∀ (s : State) (v : Byte) (cs cs' : Checksum), cs.extractLsb' 0 8 = cs'.extractLsb' 0 8 →
    cs.extractLsb' 13 3 = cs'.extractLsb' 13 3 →
    exec (decOf (packCodeword v (checksumLow cs) (checksumHigh cs))) s =
      exec (decOf (packCodeword v (checksumLow cs') (checksumHigh cs'))) s)

/-- The frame of `DEC`: over its first step, and over every later step up to and including the last, nothing changes but what the
spec names: `CODE`, `PAT`, `AUX`, `PHASE`, and in the last step `RES`, `ERR` and the response. -/
def Obligations.DecFrame : Prop :=
  (∀ (s t : State) (b0 b1 b2 : Byte), exec (.dec b0 b1 b2) s = .next t →
    t.res = s.res ∧ t.err = s.err ∧ t.rsps = s.rsps ∧ t.reqs = s.reqs ∧ t.rst = s.rst ∧ t.free = s.free ∧
    (∀ a, t.mem.readEnc a = s.mem.readEnc a) ∧ (∀ a, t.mem.readDec a = s.mem.readDec a)) ∧
  (∀ s t : State, s.phase ≠ .idle → resetApplied s = false → step s = .next t →
    t.reqs = s.reqs ∧ t.rst = s.rst.tail ∧ t.free = s.free ∧
    (∀ a, t.mem.readEnc a = s.mem.readEnc a) ∧ (∀ a, t.mem.readDec a = s.mem.readDec a) ∧
    (s.phase ≠ .fix → t.code = s.code ∧ t.res = s.res ∧ t.err = s.err ∧ t.rsps = s.rsps) ∧
    (s.phase ≠ .synX → t.pat = s.pat) ∧ (s.phase ≠ .synA → t.aux = s.aux))

/-- R78: `DEC` completes, for every one of the `2^24` arguments: from its first step (R79) the block is idle again after finitely
many more, with `ERR = 0` and `RES` the value the five steps of the pseudocode give, and it has emitted that one response; and
the rule's corner case and example, for a ROM whose word at syndrome zero is zero. -/
def Obligations.DecCompletes : Prop :=
  (∀ (s : State) (b0 b1 b2 : Byte), s.phase = .idle → s.NoReset →
    ∃ t sy, exec (.dec b0 b1 b2) s = .next t ∧ synd 33 (pattern (reassemble b0 b1 b2)) = some sy ∧ sy < 0x800 ∧
      ∃ n u, runs n t = .next u ∧ u.phase = .idle ∧ u.err = 0 ∧
        (let c := (b0.setWidth 20 <<< 11) ||| (b1.setWidth 20 <<< 3) ||| (b2 >>> 5).setWidth 20
         let ep := s.mem.readDec (sy.setWidth 12)
         let code := if ep ≠ 0 then c ^^^ ep else c
         t.code = c ∧ u.code = code ∧ u.res = (code >>> 11).setWidth 24 ∧
         u.rsps = s.rsps ++ [(0 : ErrCode) ++ (code >>> 11).setWidth 24]) ∧
        u.pat = sy ∧ u.mem = s.mem ∧ u.reqs = s.reqs ∧ u.rst = s.rst.drop n ∧ u.free = s.free) ∧
  (∀ s : State, s.phase = .idle → s.mem.readDec 0 = 0 →
    Answers (.dec 0x00 0x00 0x00) s 0x0000000 ∧ Answers (.dec 0x01 0x8E 0xB0) s 0x0000001)

/-- The micro-steps of a `DEC` (70_reset_and_hazards.md section 4, the spec's inference "at most 35 steps, and at least 3 (start,
threshold test, `FIX`) for a code integer below `0x800`"): the block is busy from the first step to the last. -/
def Obligations.DecTakesThreeToThirtyFiveSteps : Prop :=
  ∀ (s : State) (b0 b1 b2 : Byte) (later : List Request), s.phase = .idle → s.NoReset →
    s.reqs = encode (.dec b0 b1 b2) :: later →
    ∃ n u, 3 ≤ n ∧ n ≤ 35 ∧ runs n s = .next u ∧ u.phase = .idle ∧
      (∀ m w, 0 < m → m < n → runs m s = .next w → w.busy = true) ∧
      ((reassemble b0 b1 b2).toNat < 0x800 → n = 3)

/-- R82: the last step of `DEC`: one read of `DEC_ROM`, correction, extraction, response; nothing else changes. -/
def Obligations.FixLooksUpCorrectsAndResponds : Prop :=
  ∀ s : State, s.phase = .fix → resetApplied s = false →
    let ep := s.mem.readDec ((s.pat.extractLsb' 0 11).setWidth 12)
    let code' := if ep ≠ 0 then s.code ^^^ ep else s.code
    let value : Cw24 := (code' >>> 11).setWidth 24
    step s = .next { s with
      code := code', res := value, err := 0, phase := .idle,
      rsps := s.rsps ++ [(0 : ErrCode) ++ value], rst := s.rst.tail }

/-- R84: the correction is conditional as written and equal to the unconditional XOR; a zero pattern leaves the codeword as it
is before the extraction; the correction changes `CODE` alone, in the step that also responds. -/
def Obligations.ZeroPatternLeavesTheCodeword : Prop :=
  (∀ code ep : CodeInt, correct code ep = (if ep ≠ 0 then code ^^^ ep else code) ∧ correct code ep = code ^^^ ep) ∧
  (∀ s : State, s.phase = .fix → resetApplied s = false →
    let ep := s.mem.readDec ((s.pat.extractLsb' 0 11).setWidth 12)
    ∃ t, step s = .next t ∧ t.code = correct s.code ep ∧ t.reqs = s.reqs ∧
      (ep = 0 → t.code = s.code ∧ t.res = (s.code >>> 11).setWidth 24))

/-- R85: the extracted value: `CODE[19:11]` zero-extended; bits 7:0 are the corrected data byte, bit 8 is bit 19 of the applied
error pattern, bits 11:9 (and all above) are 0; with the reference ROM the value is at most `0xFF`. -/
def Obligations.ExtractedValueIsNineBits : Prop :=
  ∀ (code ep : CodeInt), code.toNat < 2 ^ 19 →
    let value := extractValue (correct code ep)
    value = ((correct code ep).extractLsb' 11 9).setWidth 24 ∧
    value.extractLsb' 0 8 = (correct code ep).extractLsb' 11 8 ∧
    value.getLsbD 8 = ep.getLsbD 19 ∧ value.extractLsb' 9 15 = 0 ∧
    (∀ a, extractValue (correct code (State.reset.mem.readDec a)) ≤ 0xFF)

/-! ## The divider -/

/-- R62, at the step that starts the division: `PAT <- p`, `AUX <- X18`; and `AUX` is not re-initialised later: every divider
step keeps it or shifts it right. -/
def Obligations.DividerStartsAtX18 : Prop :=
  (∀ (p : Word32) (s : State), startDivider p s = { s with pat := p, aux := 0x00040000, phase := .synT }) ∧
  (∀ (s : State) (b0 b1 b2 : Byte),
    exec (.dec b0 b1 b2) s =
      .next (startDivider ((reassemble b0 b1 b2).setWidth 32) { s with code := reassemble b0 b1 b2 })) ∧
  (∀ s t : State, s.phase ≠ .idle → resetApplied s = false → step s = .next t →
    t.aux = s.aux ∨ t.aux = s.aux >>> 1)

/-- R63: the threshold test (`SYN_T`). -/
def Obligations.ThresholdTest : Prop :=
  ∀ s : State, s.phase = .synT → resetApplied s = false →
    step s = .next { s with phase := if s.pat < 0x00000800 then .fix else .synW, rst := s.rst.tail }

/-- R64: the loop test (`SYN_W`); the mask is met exactly when some bit of `PAT[31:11]` is set. -/
def Obligations.LoopTest : Prop :=
  ∀ s : State, s.phase = .synW → resetApplied s = false →
    step s = .next { s with
      phase := if s.pat &&& 0xFFFFF800 ≠ 0 then .synA else .fix, rst := s.rst.tail } ∧
    (s.pat &&& 0xFFFFF800 ≠ 0 ↔ ∃ j, 11 ≤ j ∧ s.pat.getLsbD j = true)

/-- R65: alignment (`SYN_A`); the test is made before the shift. -/
def Obligations.AlignmentStep : Prop :=
  ∀ s : State, s.phase = .synA → resetApplied s = false →
    (s.aux &&& s.pat = 0 → step s = .next { s with aux := s.aux >>> 1, rst := s.rst.tail }) ∧
    (s.aux &&& s.pat ≠ 0 → step s = .next { s with phase := .synX, rst := s.rst.tail })

/-- R66: cancellation (`SYN_X`); with `AUX = 2^k`, `k ≥ 11`, the operand is `GENPOL << (k - 11)`, whose top bit is `k`; a set bit
`k` is cleared, the bits above `k` stay, and the bits `k` down to `k - 11` change as `GENPOL` says. -/
def Obligations.CancellationStep : Prop :=
  (∀ s : State, s.phase = .synX → resetApplied s = false →
    step s = .next { s with
      pat := s.pat ^^^ ((s.aux >>> 11) * 0x00000C75), phase := .synW, rst := s.rst.tail }) ∧
  (∀ (pat : Word32) (k : Nat), 11 ≤ k → k < 32 →
    let pat' := pat ^^^ cancelOperand (BitVec.twoPow 32 k)
    cancelOperand (BitVec.twoPow 32 k) = genpol <<< (k - 11) ∧
    (cancelOperand (BitVec.twoPow 32 k)).getLsbD k = true ∧
    (pat.getLsbD k = true → pat'.getLsbD k = false) ∧
    (∀ j, k < j → pat'.getLsbD j = pat.getLsbD j) ∧
    (∀ j, j ≤ 11 → pat'.getLsbD (k - 11 + j) = (pat.getLsbD (k - 11 + j) ^^ genpol.getLsbD j)) ∧
    (∀ j, j < k - 11 → pat'.getLsbD j = pat.getLsbD j))

/-- R67: the product is a logical shift and a 32-bit multiplication; for `AUX = 2^k` it is `GENPOL << (k - 11)` when `k ≥ 11` and 0
when `k < 11`, and it is 0 for `AUX = 0`. In a `DEC` the division is exact whenever it is made (the invariant). -/
def Obligations.CancelOperandIsAShiftedGenerator : Prop :=
  (∀ aux : Word32, cancelOperand aux = (aux >>> 11) * 0x00000C75 ∧ (aux >>> 11).toNat = aux.toNat / 2 ^ 11) ∧
  (∀ k, 11 ≤ k → k < 32 → cancelOperand (BitVec.twoPow 32 k) = 0x00000C75#32 <<< (k - 11)) ∧
  (∀ k, k < 11 → cancelOperand (BitVec.twoPow 32 k) = 0) ∧ cancelOperand 0 = 0 ∧
  (∀ s : State, s.Inv → s.phase = .synX → (s.aux >>> 11) * 0x00000800 = s.aux)

/-- The divider computes the remainder (41_syndrome.md section 3, the spec's inference "For every `p < 2^19`, `SYND(p)` terminates
and `SYND(p) == pmod(p)`"), within 33 micro-steps, and is zero exactly on the multiples of `g`. -/
def Obligations.SyndIsTheRemainder : Prop :=
  ∀ p : Word32, p.toNat < 2 ^ 19 →
    synd 33 p = some (pmod p) ∧ (synd 33 p = some 0 ↔ ∃ q : Word32, p = genMultiple q 8)

/-- Syndromes have 11 bits (41_syndrome.md section 3, the spec's inference "Whenever `SYND` returns, its result is below `0x800`"),
for every 32-bit pattern on which it returns, and every 11-bit value is one. -/
def Obligations.SyndromesAreBelowX11 : Prop :=
  (∀ (n : Nat) (p r : Word32), synd n p = some r → r < 0x800) ∧
  (∀ r : Word32, r < 0x800 → ∃ n p, synd n p = some r)

/-- The shortcut is redundant (41_syndrome.md section 3, the spec's inference "if the threshold test of rule R63 were removed, the
loop test of rule R64 would fail at once for the same patterns and return the same value"). -/
def Obligations.ThresholdShortcutIsRedundant : Prop :=
  (∀ pat : Word32, belowThreshold pat = !inMaskRegion pat) ∧
  (∀ s : State, s.phase = .synT → belowThreshold s.pat = true →
    thresholdTest s = loopTest { s with phase := .synW }) ∧
  (∀ p : Word32, p < 0x800 → synd 1 p = some p)

/-- Linearity (41_syndrome.md section 3, the spec's inference "`SYND(a ^ b) == SYND(a) ^ SYND(b)`" and its consequences). -/
def Obligations.SyndIsLinear : Prop :=
  ∀ a b : Word32, a.toNat < 2 ^ 19 → b.toNat < 2 ^ 19 →
    ∃ ra rb, synd 33 a = some ra ∧ synd 33 b = some rb ∧ synd 33 (a ^^^ b) = some (ra ^^^ rb) ∧
      synd 33 ra = some ra ∧ (a < 0x800 → ra = a) ∧ (ra = 0 → synd 33 (a ^^^ b) = synd 33 b)

/-- Step bounds (41_syndrome.md section 3, the spec's inference "at most 8 executions of the XOR step ..., at most 7 shifts of
`AUX` in total over the whole call ..., one threshold test, and at most 9 loop tests"). -/
def Obligations.DividerStepBounds : Prop :=
  ∀ (p : Word32) (n : Nat), p.toNat < 2 ^ 19 →
    let s := startDivider p State.reset
    visits .synX n s ≤ 8 ∧ shifts n s ≤ 7 ∧ visits .synT n s ≤ 1 ∧ visits .synW n s ≤ 9

/-- The hang (41_syndrome.md section 3, the spec's inference "If any bit of `PAT[31:19]` is set when the division starts, `SYND`
never returns"): no result after any number of micro-steps, the bits 31:19 stay, and `PAT` and `AUX` end up constant. -/
def Obligations.DividerHangsFromTwoToTheNineteen : Prop :=
  ∀ p : Word32, 2 ^ 19 ≤ p.toNat →
    (∀ n, synd n p = none) ∧
    (∀ n, (divide n (startDivider p State.reset)).pat >>> 19 = p >>> 19) ∧
    (∃ N, ∀ n, N ≤ n →
      (divide n (startDivider p State.reset)).pat = (divide N (startDivider p State.reset)).pat ∧
      (divide n (startDivider p State.reset)).aux = (divide N (startDivider p State.reset)).aux)

/-- R10: `pmod(p)` is the unique value below `2^11` with `p ^ pmod(p)` a multiple of `g`. -/
def Obligations.PmodIsTheUniqueRemainder : Prop :=
  ∀ p : Word32, (pmod p).toNat < 2 ^ 11 ∧ (∃ q, p ^^^ pmod p = genMultiple q 21) ∧
    ∀ r : Word32, r.toNat < 2 ^ 11 → (∃ q, p ^^^ r = genMultiple q 21) → r = pmod p

/-! ## The code -/

/-- R60: the reassembled codeword of `v` has syndrome zero exactly when the parity field of its checksum is `pmod(v << 11)`, and
so for every word of a ROM that meets the constraint, as every instance's does. -/
def Obligations.CodewordsHaveSyndromeZero : Prop :=
  (∀ (v : Byte) (cs : Checksum),
    codeInteger v cs = (v.setWidth 20 <<< 11) ||| (parityField cs).setWidth 20 ∧
    (synd 33 (pattern (codeInteger v cs)) = some 0 ↔
      (parityField cs).setWidth 32 = pmod (v.setWidth 32 <<< 11))) ∧
  (∀ m : Memory, m.EncValid → ∀ v, synd 33 (pattern (codeInteger v (m.readEnc v))) = some 0) ∧
  (∀ (c : Config) (s : State), instantiate c = .next s →
    ∀ v, synd 33 (pattern (codeInteger v (s.mem.readEnc v))) = some 0)

/-- Distance (43_rom_contents.md section 2, the spec's inference "any two distinct code integers differ in at least 7 bits"), for
every encode ROM that meets the constraints. -/
def Obligations.DistinctCodewordsDifferInSevenBits : Prop :=
  ∀ (m : Memory) (v w : Byte), m.EncValid → v ≠ w →
    7 ≤ weight (pattern (codeInteger v (m.readEnc v)) ^^^ pattern (codeInteger w (m.readEnc w)))

/-- The closed form (42_decoder.md section 3, the spec's inference "`DEC` returns `v ^ ((e ^ DEC_ROM[SYND(e)]) >> 11)`"), for any
valid code integer `c` and any error `e` on its 19 bits, whatever the decode ROM holds. -/
def Obligations.DecClosedForm : Prop :=
  ∀ (s : State) (b0 b1 b2 : Byte) (c e : CodeInt), s.phase = .idle → c.toNat < 2 ^ 19 → e.toNat < 2 ^ 19 →
    synd 33 (pattern c) = some 0 → reassemble b0 b1 b2 = c ^^^ e →
    ∃ se, synd 33 (pattern e) = some se ∧
      Answers (.dec b0 b1 b2) s
        (errNone ++ ((c >>> 11) ^^^ ((e ^^^ s.mem.readDec (se.setWidth 12)) >>> 11)).setWidth 24)

/-- Round trip (42_decoder.md section 3, the spec's inference "For every `v` in `0..255`: `DEC(ENC(v)) == v`"), for every pair of ROMs
that meets the constraints. -/
def Obligations.RoundTrip : Prop :=
  ∀ (s : State) (v : Byte), s.phase = .idle → s.mem.Valid →
    ∃ cw : Cw24, Answers (.enc 0 (v.setWidth 12)) s (errNone ++ cw) ∧
      Answers (decOf cw) s (errNone ++ v.setWidth 24)

/-- Single-bit errors (42_decoder.md section 3, the spec's inference "flipping that one bit and decoding returns `v`"), at each of the
24 positions of the codeword, for every pair of ROMs that meets the constraints. -/
def Obligations.SingleBitErrorsAreCorrected : Prop :=
  ∀ (s : State) (v : Byte) (i : Nat), s.phase = .idle → s.mem.Valid → i < 24 →
    ∃ cw : Cw24, Answers (.enc 0 (v.setWidth 12)) s (errNone ++ cw) ∧
      Answers (decOf (cw ^^^ BitVec.twoPow 24 i)) s (errNone ++ v.setWidth 24)

/-- Up to three errors (42_decoder.md section 3, the spec's inference "flipping any one, two or three of the 19 bits `CW24[23:5]` of
`ENC(v)`, together with any change at all to `CW24[4:0]`, and decoding returns `v`"). It rests on the reference contents of
both ROMs (log 9). -/
def Obligations.ThreeErrorsAreCorrected : Prop :=
  ∀ (s : State) (v : Byte) (e : BitVec 19) (low : BitVec 5), s.phase = .idle → s.mem = State.reset.mem →
    weight (e.setWidth 32) ≤ 3 →
    ∃ cw : Cw24, Answers (.enc 0 (v.setWidth 12)) s (errNone ++ cw) ∧
      Answers (decOf (cw ^^^ (e ++ low : Cw24))) s (errNone ++ v.setWidth 24)

/-! ## The ROMs -/

/-- The reference encode ROM (43_rom_contents.md section 2, the spec's own choice D5, log 9), by its generating rule, with rule R95's
two entries. -/
def Obligations.ReferenceEncRomFollowsItsRule : Prop :=
  ∀ v : Byte,
    let r := pmod (v.setWidth 32 <<< 11)
    State.reset.mem.readEnc v =
      (r.extractLsb' 0 3 ++ parity ((v.setWidth 32 <<< 11) ||| r) ++ (0 : BitVec 4) ++ r.extractLsb' 3 8)

/-- The default decode ROM, which is the spec's reference contents (43_rom_contents.md section 3; the default is log 9, and the
entries beyond the single errors are the spec's own choice D6): zero at syndrome zero, at the syndrome of every error of weight
1 to 3 that error, zero at every other address. -/
def Obligations.ReferenceDecRomFollowsItsRule : Prop :=
  State.reset.mem.readDec 0 = 0 ∧
  (∀ e : CodeInt, e.toNat < 2 ^ 19 → 1 ≤ weight (pattern e) → weight (pattern e) ≤ 3 →
    State.reset.mem.readDec ((pmod (pattern e)).setWidth 12) = e) ∧
  (∀ a : BitVec 12,
    (¬∃ e : CodeInt, e.toNat < 2 ^ 19 ∧ 1 ≤ weight (pattern e) ∧ weight (pattern e) ≤ 3 ∧
      (pmod (pattern e)).setWidth 12 = a) → State.reset.mem.readDec a = 0)

/-- The corrected word is a codeword (43_rom_contents.md section 3, the spec's inferences "Every word is below `2^19`" and
"`SYND(DEC_ROM[a]) == a`"; log 9). -/
def Obligations.ReferenceCorrectionsGiveCodewords : Prop :=
  ∀ a : BitVec 12, (State.reset.mem.readDec a).toNat < 2 ^ 19 ∧
    (a < 0x800 → State.reset.mem.readDec a ≠ 0 →
      pmod (pattern (State.reset.mem.readDec a)) = a.setWidth 32)

/-- R106: a configuration is refused as `TableIntegrity` exactly when a ROM has the wrong length, and the event records a ROM that
has it and that length; no instance observes the event. -/
def Obligations.WrongLengthIsTableIntegrity : Prop :=
  (∀ c : Config, (∃ rom n, instantiate c = .fault (.tableIntegrity rom n)) ↔
    (c.encRom.length ≠ 256 ∨ c.decRom.length ≠ 4096)) ∧
  (∀ (c : Config) (n : Nat), instantiate c = .fault (.tableIntegrity .encRom n) → c.encRom.length = n ∧ n ≠ 256) ∧
  (∀ (c : Config) (n : Nat), instantiate c = .fault (.tableIntegrity .decRom n) → c.decRom.length = n ∧ n ≠ 4096) ∧
  (∀ (s : State) (rom : Rom) (n : Nat), step s ≠ .fault (.tableIntegrity rom n))

/-- An instance exists only of a well-formed configuration; its ROMs hold, word for word, what the configuration holds, and meet the
constraints; the reference contents are such a configuration (43_rom_contents.md section 1). That contents which break the
constraints are refused is the model's choice (log 15), and so are the canonical form of the memory (log 8) and that the
reference configuration gives exactly the default instance (log 9). -/
def Obligations.InstanceHoldsItsConfiguration : Prop :=
  (∀ (c : Config) (s : State), instantiate c = .next s →
    c.wellFormed = true ∧ s = { State.reset with mem := s.mem } ∧ s.mem.wf ∧ s.mem.Valid ∧
    (∀ a : Byte, c.encRom[a.toNat]? = some (s.mem.readEnc a)) ∧
    (∀ a : BitVec 12, c.decRom[a.toNat]? = some (s.mem.readDec a))) ∧
  (∀ c : Config, c.wellFormed = true → ∃ s, instantiate c = .next s) ∧
  instantiate referenceConfig = .next State.reset

/-- R25: no operation, no reset and no host action changes a ROM, in one step or in many. -/
def Obligations.RomsNeverChange : Prop :=
  (∀ (n : Nat) (s t : State), runs n s = .next t → t.mem = s.mem) ∧
  (∀ (s t : State) (i : Instr), exec i s = .next t → t.mem = s.mem) ∧
  (∀ (s : State) (r : Request),
    (hostRequests r s).mem = s.mem ∧ (hostResets s).mem = s.mem ∧ (presentNext r s).mem = s.mem)

/-- The upper half of `DEC_ROM` is never read (20_memory.md section 1, the spec's inference "The upper half of the ROM,
`0x800..0xFFF`, is never read by any operation"): in every state, a memory that agrees on the rest gives the same step. -/
def Obligations.UpperHalfIsNeverRead : Prop :=
  ∀ (s t : State) (m : Memory), (∀ a, m.readEnc a = s.mem.readEnc a) →
    (∀ a : BitVec 12, a < 0x800 → m.readDec a = s.mem.readDec a) → step s = .next t →
    step { s with mem := m } = .next { t with mem := m }

/-! ## The machine -/

/-- R26: the values the spec gives after reset, of the default instance and of the instance of any configuration, whose ROMs hold
their constant values; and the four constants. Of `CODE`, `PAT`, `AUX` nothing is said (log 5). -/
def Obligations.ResetState : Prop :=
  State.reset.phase = .idle ∧ State.reset.res = 0x000000 ∧ State.reset.err = 0 ∧
  (∀ (c : Config) (s : State), instantiate c = .next s →
    s.phase = .idle ∧ s.res = 0x000000 ∧ s.err = 0 ∧ s.mem = Memory.ofConfig c) ∧
  genpol = 0x00000C75 ∧ x18 = 0x00040000 ∧ x11 = 0x00000800 ∧ mask8 = 0xFFFFF800

/-- The invariant holds of the reset state (the memory's form, the fault register, the divider; log 8). -/
def Obligations.ResetMeetsTheInvariant : Prop := State.reset.Inv

/-- Every step, of an operation, a wait or a reset, keeps the invariant: the memory's canonical form, `ERR` 0 or 1 and 1 only
beside `RES = 0`, and the divider's registers as 41_syndrome.md section 3 infers. -/
def Obligations.EveryStepKeepsTheInvariant : Prop :=
  ∀ s t : State, s.Inv → step s = .next t → t.Inv

/-- R45: a request is accepted only in `IDLE`; accepting it is the first step of the operation it names; a busy block leaves what
is presented where it is and answers a next state. -/
def Obligations.RequestsAreAcceptedOnlyWhenIdle : Prop :=
  (∀ (s : State) (r : Request) (later : List Request), s.phase = .idle → resetApplied s = false →
    s.reqs = r :: later → step s = exec (decodeRequest r) { s with reqs := later, rst := s.rst.tail }) ∧
  (∀ s : State, s.phase ≠ .idle → resetApplied s = false → ∃ t, step s = .next t ∧ t.reqs = s.reqs)

/-- A step runs the decoded instruction: the request presented to an idle block, when it is the encoding of a well-formed
instruction, is executed on the state from which it has been taken (and one level of the reset input). -/
def Obligations.StepRunsThePresentedInstruction : Prop :=
  ∀ (s : State) (i : Instr) (later : List Request), i.wellFormed = true → s.phase = .idle →
    resetApplied s = false → s.reqs = encode i :: later →
    step s = exec i { s with reqs := later, rst := s.rst.tail }

/-- A word of the opcode table's numbering that decodes is what the next step runs (log 11). -/
def Obligations.PlacedWordRunsNext : Prop :=
  ∀ (s : State) (nbits w : Nat) (i : Instr), decodeTableWord nbits w = some i →
    step (s.withFetchWord nbits w) = exec i { s with phase := .idle, rst := [] }

/-- R46: every accepted request is answered by exactly one response, which is the one its case of the table gives; it is written to
`ERR` and `RES`, and the block is idle. Before it nothing is emitted. -/
def Obligations.EachRequestGetsExactlyOneResponse : Prop :=
  ∀ (s : State) (r : Request) (later : List Request), s.phase = .idle → s.NoReset → s.reqs = r :: later →
    ∃ n u, 0 < n ∧ runs n s = .next u ∧ u.phase = .idle ∧ u.reqs = later ∧
      u.rsps = s.rsps ++ [responseOf s.mem (decodeRequest r)] ∧
      u.err = (responseOf s.mem (decodeRequest r)).extractLsb' 24 2 ∧
      u.res = (responseOf s.mem (decodeRequest r)).extractLsb' 0 24 ∧
      ∀ m w, m < n → runs m s = .next w → w.rsps = s.rsps

/-- A host that presents a list of requests gets their responses in order, each a function of its request and the ROMs alone
(10_state.md section 3, the spec's inference "every operation is a function of its request and the ROM contents alone"). -/
def Obligations.RequestsAreAnsweredInOrder : Prop :=
  ∀ s : State, s.phase = .idle → s.NoReset →
    ∃ n u, n ≤ 35 * s.reqs.length ∧ runs n s = .next u ∧ u.phase = .idle ∧ u.reqs = [] ∧
      u.rsps = s.rsps ++ s.reqs.map (fun r => responseOf s.mem (decodeRequest r))

/-- What `CODE`, `PAT` and `AUX` hold when the block is idle influences nothing (10_state.md section 3, the spec's inference "their
values left over from a previous operation cannot influence a later one"), over any number of steps, resets included. -/
def Obligations.LeftoverRegistersInfluenceNothing : Prop :=
  ∀ (n : Nat) (s t : State) (c : CodeInt) (p a : Word32), s.phase = .idle → runs n s = .next t →
    ∃ t', runs n { s with code := c, pat := p, aux := a } = .next t' ∧
      t' = { t with code := t'.code, pat := t'.pat, aux := t'.aux }

/-- R16: the phase transitions, and `ENC` never leaves `IDLE`; the wait of an idle block is log 7. -/
def Obligations.PhaseTransitions : Prop :=
  (∀ s t : State, resetApplied s = false → step s = .next t →
    (s.phase = .idle ∧ (t.phase = .idle ∨ t.phase = .synT)) ∨
    (s.phase = .synT ∧ (t.phase = .fix ∨ t.phase = .synW)) ∨
    (s.phase = .synW ∧ (t.phase = .synA ∨ t.phase = .fix)) ∨
    (s.phase = .synA ∧ (t.phase = .synA ∨ t.phase = .synX)) ∨
    (s.phase = .synX ∧ t.phase = .synW) ∨ (s.phase = .fix ∧ t.phase = .idle)) ∧
  (∀ (s t : State) (rsvd v : BitVec 12), s.phase = .idle → exec (.enc rsvd v) s = .next t → t.phase = .idle) ∧
  (∀ (s t : State) (b0 b1 b2 : Byte), exec (.dec b0 b1 b2) s = .next t → t.phase = .synT)

/-- R116: reset, in any phase: `PHASE`, `RES`, `ERR`; the ROMs are not affected and no response is given. Reset is the only way out
of a hang. Of `CODE`, `PAT`, `AUX` nothing is said (log 6). -/
def Obligations.ResetInAnyPhase : Prop :=
  (∀ s : State, resetApplied s = true → ∃ t, step s = .next t ∧ t.phase = .idle ∧ t.res = 0x000000 ∧
    t.err = 0 ∧ t.mem = s.mem ∧ t.rsps = s.rsps) ∧
  (∀ s t : State, Hung s → resetApplied s = false → step s = .next t → Hung t)

/-- `RES` and `ERR` are written only at the completion of an operation, together with its response, or at reset (R21, R22, R46).
That the requests still presented at a reset stay presented is the model's choice (log 3). -/
def Obligations.ResultChangesOnlyAtCompletion : Prop :=
  (∀ s t : State, resetApplied s = false → step s = .next t →
    (t.res = s.res ∧ t.err = s.err ∧ t.rsps = s.rsps) ∨
    (t.phase = .idle ∧ t.rsps = s.rsps ++ [t.err ++ t.res] ∧
      (t.err = errNone ∨ (t.err = errOutOfRange ∧ t.res = 0 ∧ s.phase = .idle)))) ∧
  (∀ s : State, resetApplied s = true → ∃ t, step s = .next t ∧ t.res = 0 ∧ t.err = 0 ∧
    t.rsps = s.rsps ∧ t.reqs = s.reqs ∧ t.rst = s.rst.tail)

/-- Nothing reads `RES` or `ERR`: other values there give the same step, but for the two registers where it leaves them (R22 "No
operation reads `ERR`"). -/
def Obligations.NoStepReadsTheResultRegisters : Prop :=
  ∀ (s t : State) (r : Cw24) (e : ErrCode), step s = .next t →
    step { s with res := r, err := e } = .next t ∨
    step { s with res := r, err := e } = .next { t with res := r, err := e }

/-- No step of an instance stops: every state, reached or not, has a next one (60_exceptions.md section 1 "No other operation or
condition raises anything"; waiting is log 7). -/
def Obligations.EveryStepGoesOn : Prop := ∀ s : State, ∃ t, step s = .next t
end

