-- ==== Sys2Proof/Laws/State.lean ====
section
/-! SUPPORT. What each named update of the state does to each field, so that no proof unfolds a record update. -/

namespace Sys2Proof.Machine

variable (s : State)

/-! ### complete -/

@[simp] theorem complete_phase (e : ErrCode) (d : Cw24) : (complete e d s).phase = .idle := rfl
@[simp] theorem complete_code (e : ErrCode) (d : Cw24) : (complete e d s).code = s.code := rfl
@[simp] theorem complete_pat (e : ErrCode) (d : Cw24) : (complete e d s).pat = s.pat := rfl
@[simp] theorem complete_aux (e : ErrCode) (d : Cw24) : (complete e d s).aux = s.aux := rfl
@[simp] theorem complete_res (e : ErrCode) (d : Cw24) : (complete e d s).res = d := rfl
@[simp] theorem complete_err (e : ErrCode) (d : Cw24) : (complete e d s).err = e := rfl
@[simp] theorem complete_mem (e : ErrCode) (d : Cw24) : (complete e d s).mem = s.mem := rfl
@[simp] theorem complete_reqs (e : ErrCode) (d : Cw24) : (complete e d s).reqs = s.reqs := rfl
@[simp] theorem complete_rst (e : ErrCode) (d : Cw24) : (complete e d s).rst = s.rst := rfl
@[simp] theorem complete_rsps (e : ErrCode) (d : Cw24) : (complete e d s).rsps = s.rsps ++ [e ++ d] := rfl
@[simp] theorem complete_free (e : ErrCode) (d : Cw24) : (complete e d s).free = s.free := rfl

/-! ### resetBlock -/

@[simp] theorem resetBlock_phase : (resetBlock s).phase = .idle := rfl
@[simp] theorem resetBlock_code : (resetBlock s).code = Config.freeCode s.free := rfl
@[simp] theorem resetBlock_pat : (resetBlock s).pat = Config.freePat s.free := rfl
@[simp] theorem resetBlock_aux : (resetBlock s).aux = Config.freeAux s.free := rfl
@[simp] theorem resetBlock_res : (resetBlock s).res = 0 := rfl
@[simp] theorem resetBlock_err : (resetBlock s).err = errNone := rfl
@[simp] theorem resetBlock_mem : (resetBlock s).mem = s.mem := rfl
@[simp] theorem resetBlock_reqs : (resetBlock s).reqs = s.reqs := rfl
@[simp] theorem resetBlock_rst : (resetBlock s).rst = s.rst := rfl
@[simp] theorem resetBlock_rsps : (resetBlock s).rsps = s.rsps := rfl
@[simp] theorem resetBlock_free : (resetBlock s).free = s.free + 1 := rfl

/-! ### tick -/

@[simp] theorem tick_phase : (tick s).phase = s.phase := rfl
@[simp] theorem tick_code : (tick s).code = s.code := rfl
@[simp] theorem tick_pat : (tick s).pat = s.pat := rfl
@[simp] theorem tick_aux : (tick s).aux = s.aux := rfl
@[simp] theorem tick_res : (tick s).res = s.res := rfl
@[simp] theorem tick_err : (tick s).err = s.err := rfl
@[simp] theorem tick_mem : (tick s).mem = s.mem := rfl
@[simp] theorem tick_reqs : (tick s).reqs = s.reqs := rfl
@[simp] theorem tick_rst : (tick s).rst = s.rst.tail := rfl
@[simp] theorem tick_rsps : (tick s).rsps = s.rsps := rfl
@[simp] theorem tick_free : (tick s).free = s.free := rfl

/-! ### startDivider -/

@[simp] theorem startDivider_phase (p : Word32) : (startDivider p s).phase = .synT := rfl
@[simp] theorem startDivider_code (p : Word32) : (startDivider p s).code = s.code := rfl
@[simp] theorem startDivider_pat (p : Word32) : (startDivider p s).pat = p := rfl
@[simp] theorem startDivider_aux (p : Word32) : (startDivider p s).aux = x18 := rfl
@[simp] theorem startDivider_res (p : Word32) : (startDivider p s).res = s.res := rfl
@[simp] theorem startDivider_err (p : Word32) : (startDivider p s).err = s.err := rfl
@[simp] theorem startDivider_mem (p : Word32) : (startDivider p s).mem = s.mem := rfl
@[simp] theorem startDivider_reqs (p : Word32) : (startDivider p s).reqs = s.reqs := rfl
@[simp] theorem startDivider_rst (p : Word32) : (startDivider p s).rst = s.rst := rfl
@[simp] theorem startDivider_rsps (p : Word32) : (startDivider p s).rsps = s.rsps := rfl
@[simp] theorem startDivider_free (p : Word32) : (startDivider p s).free = s.free := rfl

/-! ### thresholdTest -/

@[simp] theorem thresholdTest_phase : (thresholdTest s).phase = bif belowThreshold s.pat then .fix else .synW := rfl
@[simp] theorem thresholdTest_code : (thresholdTest s).code = s.code := rfl
@[simp] theorem thresholdTest_pat : (thresholdTest s).pat = s.pat := rfl
@[simp] theorem thresholdTest_aux : (thresholdTest s).aux = s.aux := rfl
@[simp] theorem thresholdTest_res : (thresholdTest s).res = s.res := rfl
@[simp] theorem thresholdTest_err : (thresholdTest s).err = s.err := rfl
@[simp] theorem thresholdTest_mem : (thresholdTest s).mem = s.mem := rfl
@[simp] theorem thresholdTest_reqs : (thresholdTest s).reqs = s.reqs := rfl
@[simp] theorem thresholdTest_rst : (thresholdTest s).rst = s.rst := rfl
@[simp] theorem thresholdTest_rsps : (thresholdTest s).rsps = s.rsps := rfl
@[simp] theorem thresholdTest_free : (thresholdTest s).free = s.free := rfl

/-! ### loopTest -/

@[simp] theorem loopTest_phase : (loopTest s).phase = bif inMaskRegion s.pat then .synA else .fix := rfl
@[simp] theorem loopTest_code : (loopTest s).code = s.code := rfl
@[simp] theorem loopTest_pat : (loopTest s).pat = s.pat := rfl
@[simp] theorem loopTest_aux : (loopTest s).aux = s.aux := rfl
@[simp] theorem loopTest_res : (loopTest s).res = s.res := rfl
@[simp] theorem loopTest_err : (loopTest s).err = s.err := rfl
@[simp] theorem loopTest_mem : (loopTest s).mem = s.mem := rfl
@[simp] theorem loopTest_reqs : (loopTest s).reqs = s.reqs := rfl
@[simp] theorem loopTest_rst : (loopTest s).rst = s.rst := rfl
@[simp] theorem loopTest_rsps : (loopTest s).rsps = s.rsps := rfl
@[simp] theorem loopTest_free : (loopTest s).free = s.free := rfl

/-! ### cancelStep -/

@[simp] theorem cancelStep_phase : (cancelStep s).phase = .synW := rfl
@[simp] theorem cancelStep_code : (cancelStep s).code = s.code := rfl
@[simp] theorem cancelStep_pat : (cancelStep s).pat = s.pat ^^^ cancelOperand s.aux := rfl
@[simp] theorem cancelStep_aux : (cancelStep s).aux = s.aux := rfl
@[simp] theorem cancelStep_res : (cancelStep s).res = s.res := rfl
@[simp] theorem cancelStep_err : (cancelStep s).err = s.err := rfl
@[simp] theorem cancelStep_mem : (cancelStep s).mem = s.mem := rfl
@[simp] theorem cancelStep_reqs : (cancelStep s).reqs = s.reqs := rfl
@[simp] theorem cancelStep_rst : (cancelStep s).rst = s.rst := rfl
@[simp] theorem cancelStep_rsps : (cancelStep s).rsps = s.rsps := rfl
@[simp] theorem cancelStep_free : (cancelStep s).free = s.free := rfl

/-! ### fixStep -/

@[simp] theorem fixStep_phase : (fixStep s).phase = .idle := rfl
@[simp] theorem fixStep_code : (fixStep s).code = correct s.code (s.mem.readDec (syndromeAddress s.pat)) := rfl
@[simp] theorem fixStep_pat : (fixStep s).pat = s.pat := rfl
@[simp] theorem fixStep_aux : (fixStep s).aux = s.aux := rfl
@[simp] theorem fixStep_res :
    (fixStep s).res = extractValue (correct s.code (s.mem.readDec (syndromeAddress s.pat))) := rfl
@[simp] theorem fixStep_err : (fixStep s).err = errNone := rfl
@[simp] theorem fixStep_mem : (fixStep s).mem = s.mem := rfl
@[simp] theorem fixStep_reqs : (fixStep s).reqs = s.reqs := rfl
@[simp] theorem fixStep_rst : (fixStep s).rst = s.rst := rfl
@[simp] theorem fixStep_rsps :
    (fixStep s).rsps = s.rsps ++ [errNone ++ extractValue (correct s.code (s.mem.readDec (syndromeAddress s.pat)))] := rfl
@[simp] theorem fixStep_free : (fixStep s).free = s.free := rfl

/-! ### presentNext -/

@[simp] theorem presentNext_phase (r : Request) : (presentNext r s).phase = .idle := rfl
@[simp] theorem presentNext_code (r : Request) : (presentNext r s).code = s.code := rfl
@[simp] theorem presentNext_pat (r : Request) : (presentNext r s).pat = s.pat := rfl
@[simp] theorem presentNext_aux (r : Request) : (presentNext r s).aux = s.aux := rfl
@[simp] theorem presentNext_res (r : Request) : (presentNext r s).res = s.res := rfl
@[simp] theorem presentNext_err (r : Request) : (presentNext r s).err = s.err := rfl
@[simp] theorem presentNext_mem (r : Request) : (presentNext r s).mem = s.mem := rfl
@[simp] theorem presentNext_reqs (r : Request) : (presentNext r s).reqs = r :: s.reqs := rfl
@[simp] theorem presentNext_rst (r : Request) : (presentNext r s).rst = [] := rfl
@[simp] theorem presentNext_rsps (r : Request) : (presentNext r s).rsps = s.rsps := rfl
@[simp] theorem presentNext_free (r : Request) : (presentNext r s).free = s.free := rfl

/-! ### hostRequests -/

@[simp] theorem hostRequests_phase (r : Request) : (hostRequests r s).phase = s.phase := rfl
@[simp] theorem hostRequests_code (r : Request) : (hostRequests r s).code = s.code := rfl
@[simp] theorem hostRequests_pat (r : Request) : (hostRequests r s).pat = s.pat := rfl
@[simp] theorem hostRequests_aux (r : Request) : (hostRequests r s).aux = s.aux := rfl
@[simp] theorem hostRequests_res (r : Request) : (hostRequests r s).res = s.res := rfl
@[simp] theorem hostRequests_err (r : Request) : (hostRequests r s).err = s.err := rfl
@[simp] theorem hostRequests_mem (r : Request) : (hostRequests r s).mem = s.mem := rfl
@[simp] theorem hostRequests_reqs (r : Request) : (hostRequests r s).reqs = s.reqs ++ [r] := rfl
@[simp] theorem hostRequests_rst (r : Request) : (hostRequests r s).rst = s.rst := rfl
@[simp] theorem hostRequests_rsps (r : Request) : (hostRequests r s).rsps = s.rsps := rfl
@[simp] theorem hostRequests_free (r : Request) : (hostRequests r s).free = s.free := rfl

/-! ### hostResets -/

@[simp] theorem hostResets_phase : (hostResets s).phase = s.phase := rfl
@[simp] theorem hostResets_code : (hostResets s).code = s.code := rfl
@[simp] theorem hostResets_pat : (hostResets s).pat = s.pat := rfl
@[simp] theorem hostResets_aux : (hostResets s).aux = s.aux := rfl
@[simp] theorem hostResets_res : (hostResets s).res = s.res := rfl
@[simp] theorem hostResets_err : (hostResets s).err = s.err := rfl
@[simp] theorem hostResets_mem : (hostResets s).mem = s.mem := rfl
@[simp] theorem hostResets_reqs : (hostResets s).reqs = s.reqs := rfl
@[simp] theorem hostResets_rst : (hostResets s).rst = true :: s.rst.tail := rfl
@[simp] theorem hostResets_rsps : (hostResets s).rsps = s.rsps := rfl
@[simp] theorem hostResets_free : (hostResets s).free = s.free := rfl

/-! ### alignStep -/

@[simp] theorem alignStep_phase : (alignStep s).phase = bif overlaps s.aux s.pat then .synX else s.phase := by
  unfold alignStep; cases overlaps s.aux s.pat <;> rfl
@[simp] theorem alignStep_code : (alignStep s).code = s.code := by
  unfold alignStep; cases overlaps s.aux s.pat <;> rfl
@[simp] theorem alignStep_pat : (alignStep s).pat = s.pat := by
  unfold alignStep; cases overlaps s.aux s.pat <;> rfl
@[simp] theorem alignStep_aux : (alignStep s).aux = bif overlaps s.aux s.pat then s.aux else s.aux >>> 1 := by
  unfold alignStep; cases overlaps s.aux s.pat <;> rfl
@[simp] theorem alignStep_res : (alignStep s).res = s.res := by
  unfold alignStep; cases overlaps s.aux s.pat <;> rfl
@[simp] theorem alignStep_err : (alignStep s).err = s.err := by
  unfold alignStep; cases overlaps s.aux s.pat <;> rfl
@[simp] theorem alignStep_mem : (alignStep s).mem = s.mem := by
  unfold alignStep; cases overlaps s.aux s.pat <;> rfl
@[simp] theorem alignStep_reqs : (alignStep s).reqs = s.reqs := by
  unfold alignStep; cases overlaps s.aux s.pat <;> rfl
@[simp] theorem alignStep_rst : (alignStep s).rst = s.rst := by
  unfold alignStep; cases overlaps s.aux s.pat <;> rfl
@[simp] theorem alignStep_rsps : (alignStep s).rsps = s.rsps := by
  unfold alignStep; cases overlaps s.aux s.pat <;> rfl
@[simp] theorem alignStep_free : (alignStep s).free = s.free := by
  unfold alignStep; cases overlaps s.aux s.pat <;> rfl

/-! ### The two kinds of response -/

@[simp] theorem respond_eq_complete (d : Cw24) : respond d s = complete errNone d s := rfl
@[simp] theorem raiseOutOfRange_eq_complete : raiseOutOfRange s = complete errOutOfRange 0 s := rfl

end Sys2Proof.Machine
end

