-- ==== Sys2Proof/Laws/Ops.lean ====
section
/-! SUPPORT. One lemma for each shared operation that says everything it can do. -/

namespace Sys2Proof.Machine

/-! ### The tests -/

/-- The encoder's range check, on numbers (R55). -/
theorem outOfRange_iff (arg : Cw24) : outOfRange arg = true ↔ 0xFF < arg.toNat := by
  have h : arg.toNat / 256 % 2 ^ 16 = arg.toNat / 256 := Nat.mod_eq_of_lt (by have := arg.isLt; omega)
  simp only [outOfRange, bne_iff_ne, ne_eq, ← BitVec.toNat_inj, BitVec.extractLsb'_toNat,
    Nat.shiftRight_eq_div_pow, BitVec.ofNat_eq_ofNat, BitVec.toNat_ofNat]
  omega

/-- The correction is the XOR, whether or not the pattern is zero (R84). -/
theorem correct_eq_xor (code ep : CodeInt) : correct code ep = code ^^^ ep := by
  unfold correct
  split
  · rfl
  · rename_i h
    rw [Decidable.not_not.mp h]; simp

/-- Everything that building an instance can do when it builds one. -/
theorem instantiate_cases {c : Config} {s : State} (h : instantiate c = .next s) :
    c.encRom.length = encDepth ∧ c.decRom.length = decDepth ∧ c.contentsOk = true ∧
      s = { State.reset with mem := Memory.ofConfig c } := by
  unfold instantiate at h
  split at h
  · cases h
  · rename_i he
    split at h
    · cases h
    · rename_i hd
      split at h
      · rename_i hc
        injection h with h
        exact ⟨not_not.mp he, not_not.mp hd, hc, h.symm⟩
      · cases h

/-! ### The meanings -/

/-- Everything `ENC` can do. -/
theorem execEnc_cases {rsvd : BitVec 12} {v : DataPort} {s t : State} (h : execEnc rsvd v s = .next t) :
    (outOfRange (encArg rsvd v) = true ∧ t = complete errOutOfRange 0 s) ∨
    (outOfRange (encArg rsvd v) = false ∧
      t = complete errNone (encodedWord s.mem (dataByte (encArg rsvd v))) s) := by
  unfold execEnc at h
  cases hr : outOfRange (encArg rsvd v) <;> simp only [hr, cond_true, cond_false] at h
  · injection h with h; exact .inr ⟨rfl, h.symm⟩
  · injection h with h; exact .inl ⟨rfl, h.symm⟩

/-- Everything the first step of `DEC` can do. -/
theorem execDec_cases {b0 b1 b2 : Byte} {s t : State} (h : execDec b0 b1 b2 s = .next t) :
    t = startDivider (pattern (reassemble b0 b1 b2)) { s with code := reassemble b0 b1 b2 } := by
  injection h with h; exact h.symm

/-! ### The sequencer -/

/-- Everything a step can do, whatever executes an accepted request. -/
theorem stepWith_cases {run : Instr → State → Host.Outcome State Fault Refusal} {s t : State}
    (h : stepWith run s = .next t) :
    (resetApplied s = true ∧ t = resetBlock (tick s)) ∨
    (resetApplied s = false ∧
      ((s.phase = .idle ∧ s.reqs = [] ∧ t = tick s) ∨
       (∃ r later, s.phase = .idle ∧ s.reqs = r :: later ∧
         run (decodeRequest r) { tick s with reqs := later } = .next t) ∨
       (s.phase = .synT ∧ t = thresholdTest (tick s)) ∨
       (s.phase = .synW ∧ t = loopTest (tick s)) ∨
       (s.phase = .synA ∧ t = alignStep (tick s)) ∨
       (s.phase = .synX ∧ t = cancelStep (tick s)) ∨
       (s.phase = .fix ∧ t = fixStep (tick s)))) := by
  unfold stepWith at h
  cases hr : resetApplied s <;> simp only [hr, cond_true, cond_false] at h
  case true => injection h with h; exact .inl ⟨rfl, h.symm⟩
  case false =>
    refine .inr ⟨rfl, ?_⟩
    simp only [phaseStep, tick_phase] at h
    cases hp : s.phase <;> rw [hp] at h <;> simp only at h
    case idle =>
      simp only [acceptStep, fetchRequest, tick_reqs] at h
      cases hq : s.reqs with
      | nil => rw [hq] at h; injection h with h; exact .inl ⟨rfl, rfl, h.symm⟩
      | cons r later => rw [hq] at h; exact .inr (.inl ⟨r, later, rfl, rfl, h⟩)
    all_goals
      injection h with h
      subst h
      simp

end Sys2Proof.Machine
end

