-- ==== Sys2Proof/Laws/Polynomial.lean ====
section
/-! SUPPORT. The remainder is linear, has 11 bits, leaves 11-bit values alone and vanishes on the shifted generators. -/

namespace Sys2Proof.Machine

/-- A property of 0, of the first `n` powers of two and of XORs holds of every value below `2^n`. -/
theorem xor_induction {P : Word32 → Prop} (h0 : P 0) (hx : ∀ a b, P a → P b → P (a ^^^ b)) :
    ∀ n, (∀ i, i < n → P (BitVec.twoPow 32 i)) → ∀ p : Word32, p.toNat < 2 ^ n → P p := by
  intro n
  induction n with
  | zero =>
    intro _ p hp
    have : p = 0 := by apply BitVec.eq_of_toNat_eq; simpa using hp
    exact this ▸ h0
  | succ n ih =>
    intro hb p hp
    have ih' := ih fun i hi => hb i (by omega)
    by_cases hn : p.toNat < 2 ^ n
    · exact ih' p hn
    · have hn' : n < 32 := by
        by_contra h
        have := p.isLt
        have : 2 ^ 32 ≤ 2 ^ n := Nat.pow_le_pow_right (by omega) (by omega)
        omega
      have hbit : (BitVec.twoPow 32 n).toNat = 2 ^ n := by
        have : 2 ^ n < 2 ^ 32 := Nat.pow_lt_pow_right (by omega) hn'
        rw [BitVec.toNat_twoPow, Nat.mod_eq_of_lt this]
      have hlow : (p ^^^ (BitVec.twoPow 32 n)).toNat < 2 ^ n := by
        rw [BitVec.toNat_xor, hbit]
        apply Nat.lt_pow_two_of_testBit
        intro j hj
        rw [Nat.testBit_xor, Nat.testBit_two_pow]
        rcases Nat.lt_or_eq_of_le hj with h | h
        · rw [Nat.testBit_lt_two_pow (lt_of_lt_of_le hp (Nat.pow_le_pow_right (by omega) h))]
          simp; omega
        · subst h
          have : p.toNat.testBit n = true := by
            rw [Nat.testBit_eq_decide_div_mod_eq]
            have : p.toNat / 2 ^ n = 1 := by
              apply Nat.div_eq_of_lt_le <;> omega
            simp [this]
          simp [this]
      have := hx _ _ (ih' _ hlow) (hb n (by omega))
      simpa [BitVec.xor_assoc] using this

theorem pmodDigit_xor (r r' : Word32) (c c' : Bool) :
    pmodDigit (r ^^^ r') (c ^^ c') = pmodDigit r c ^^^ pmodDigit r' c' := by
  have hc : (BitVec.ofBool (c ^^ c')).setWidth 32 =
      (BitVec.ofBool c).setWidth 32 ^^^ (BitVec.ofBool c').setWidth 32 := by
    cases c <;> cases c' <;> rfl
  have hs : ((r ^^^ r') <<< 1) ^^^ (BitVec.ofBool (c ^^ c')).setWidth 32 =
      ((r <<< 1) ^^^ (BitVec.ofBool c).setWidth 32) ^^^ ((r' <<< 1) ^^^ (BitVec.ofBool c').setWidth 32) := by
    rw [hc, BitVec.shiftLeft_xor_distrib]; ac_rfl
  simp only [pmodDigit, hs]
  generalize (r <<< 1) ^^^ (BitVec.ofBool c).setWidth 32 = x
  generalize (r' <<< 1) ^^^ (BitVec.ofBool c').setWidth 32 = y
  rw [BitVec.getLsbD_xor]
  have cancel : x ^^^ y = x ^^^ genpol ^^^ (y ^^^ genpol) := by
    rw [show x ^^^ genpol ^^^ (y ^^^ genpol) = x ^^^ y ^^^ (genpol ^^^ genpol) by ac_rfl]; simp
  cases x.getLsbD 11 <;> cases y.getLsbD 11
  · simp
  · simp [BitVec.xor_assoc]
  · simp only [Bool.xor_false, if_true, Bool.false_eq_true, if_false]; ac_rfl
  · simpa using cancel

theorem pmodFrom_xor (p p' : Word32) (n : Nat) : ∀ r r',
    pmodFrom (p ^^^ p') n (r ^^^ r') = pmodFrom p n r ^^^ pmodFrom p' n r' := by
  induction n with
  | zero => intro r r'; rfl
  | succ n ih =>
    intro r r'
    simp only [pmodFrom, BitVec.getLsbD_xor, pmodDigit_xor]
    exact ih _ _

/-- The remainder is linear. -/
theorem pmod_xor (p p' : Word32) : pmod (p ^^^ p') = pmod p ^^^ pmod p' := by
  simpa [pmod] using pmodFrom_xor p p' 32 0 0

@[simp] theorem pmod_zero : pmod 0 = 0 := by decide +kernel

theorem xor_lt_two_pow {a b : Word32} {n : Nat} (ha : a.toNat < 2 ^ n) (hb : b.toNat < 2 ^ n) :
    (a ^^^ b).toNat < 2 ^ n := by
  rw [BitVec.toNat_xor]; exact Nat.xor_lt_two_pow ha hb

/-- The remainder has 11 bits. -/
theorem pmod_lt (p : Word32) : (pmod p).toNat < 2 ^ 11 := by
  have h : ∀ i, i < 32 → (pmod (BitVec.twoPow 32 i)).toNat < 2 ^ 11 := by decide +kernel
  exact xor_induction (P := fun p => (pmod p).toNat < 2 ^ 11) (by decide +kernel)
    (fun a b ha hb => by rw [pmod_xor]; exact xor_lt_two_pow ha hb) 32 h p p.isLt

/-- The remainder of an 11-bit value is the value. -/
theorem pmod_of_lt {p : Word32} (h : p.toNat < 2 ^ 11) : pmod p = p := by
  have hb : ∀ i, i < 11 → pmod (BitVec.twoPow 32 i) = BitVec.twoPow 32 i := by decide +kernel
  exact xor_induction (P := fun p => pmod p = p) (by decide +kernel)
    (fun a b ha hb => by rw [pmod_xor, ha, hb]) 11 hb p h

/-- A shifted generator that fits the register has remainder zero. -/
theorem pmod_genpol_shift : ∀ k, k ≤ 20 → pmod (genpol <<< k) = 0 := by decide +kernel

/-- So has every multiple of the generator. -/
theorem pmod_genMultiple (q : Word32) : ∀ n, n ≤ 21 → pmod (genMultiple q n) = 0 := by
  intro n
  induction n with
  | zero => intro _; exact pmod_zero
  | succ n ih =>
    intro h
    rw [genMultiple, pmod_xor, ih (by omega)]
    split
    · rw [pmod_genpol_shift n (by omega)]; rfl
    · rw [pmod_zero]; rfl

end Sys2Proof.Machine
end

