-- ==== Sys2Proof/Laws/Divider.lean ====
section
/-! SUPPORT. The divider's three tests and two updates, on numbers and bits (`41_syndrome.md` rules R63 to R66), and its runs. -/

namespace Sys2Proof.Machine

/-- The threshold test, on numbers (R63). -/
theorem belowThreshold_iff (p : Word32) : belowThreshold p = true ↔ p.toNat < 2 ^ 11 := by
  simp [belowThreshold, BitVec.lt_def, x11]

/-- The mask keeps the bits from position 11 on. -/
theorem and_mask8 (p : Word32) : p &&& mask8 = (p >>> 11) <<< 11 := by
  have hm : mask8 = BitVec.allOnes 32 <<< 11 := by decide
  rw [hm]
  refine BitVec.eq_of_getLsbD_eq fun j hj => ?_
  simp only [BitVec.getLsbD_and, BitVec.getLsbD_shiftLeft, BitVec.getLsbD_ushiftRight, BitVec.getLsbD_allOnes]
  rcases Nat.lt_or_ge j 11 with h | h
  · simp [h]
  · have hj' : 11 + (j - 11) = j := by omega
    have hlt : j - 11 < 32 := by omega
    simp [hj, hj', hlt, Nat.not_lt.mpr h]

/-- The loop test, on numbers (R64). -/
theorem inMaskRegion_iff (p : Word32) : inMaskRegion p = true ↔ 2 ^ 11 ≤ p.toNat := by
  unfold inMaskRegion
  rw [and_mask8, bne_iff_ne, ne_eq, ← BitVec.toNat_inj]
  have := p.isLt
  simp only [BitVec.toNat_shiftLeft, BitVec.toNat_ushiftRight, Nat.shiftLeft_eq, Nat.shiftRight_eq_div_pow,
    BitVec.ofNat_eq_ofNat, BitVec.toNat_ofNat]
  omega

/-- The alignment test, when `AUX` has its one bit at `k` (R65). -/
theorem overlaps_twoPow (k : Nat) (p : Word32) : overlaps (BitVec.twoPow 32 k) p = p.getLsbD k := by
  unfold overlaps
  rw [BitVec.and_comm, BitVec.and_twoPow]
  cases h : p.getLsbD k
  · simp
  · have hk : k < 32 := BitVec.lt_of_getLsbD h
    simp only [bne_iff_ne, ne_eq]
    intro e
    have := congrArg (fun x => x.getLsbD k) e
    simp at this
    omega

/-- One shift of `AUX` (R65). -/
theorem twoPow_ushiftRight_one {k : Nat} (h : 1 ≤ k) (h' : k < 32) :
    BitVec.twoPow 32 k >>> 1 = BitVec.twoPow 32 (k - 1) := by
  refine BitVec.eq_of_getLsbD_eq fun j hj => ?_
  simp only [BitVec.getLsbD_ushiftRight, BitVec.getLsbD_twoPow]
  by_cases hk : k - 1 = j
  · have hk' : k = 1 + j := by omega
    subst hk'
    simp
    omega
  · have hk' : ¬k = 1 + j := by omega
    simp [hk', hk]

/-- A pattern below `2^(k+1)` without its bit `k` is below `2^k`. -/
theorem toNat_lt_of_top_clear {k : Nat} {p : Word32} (hp : p.toNat < 2 ^ (k + 1)) (hb : p.getLsbD k = false) :
    p.toNat < 2 ^ k := by
  refine Nat.lt_pow_two_of_testBit _ fun j hj => ?_
  rcases Nat.lt_or_eq_of_le hj with h | h
  · exact Nat.testBit_lt_two_pow (lt_of_lt_of_le hp (Nat.pow_le_pow_right (by omega) h))
  · subst h; exact hb

/-- The highest set bit of a pattern in the mask region. -/
theorem exists_top_bit {p : Word32} {j : Nat} (h : 2 ^ 11 ≤ p.toNat) (hj : p.toNat < 2 ^ j) :
    ∃ m, 11 ≤ m ∧ m < j ∧ p.getLsbD m = true ∧ p.toNat < 2 ^ (m + 1) := by
  refine ⟨Nat.log2 p.toNat, ?_, ?_, ?_, ?_⟩
  · rw [Nat.le_log2 (by omega)]; exact h
  · rw [Nat.log2_lt (by omega)]; exact hj
  · exact Nat.testBit_log2 (by omega)
  · exact Nat.lt_log2_self

/-- Runs of the divider compose. -/
theorem divide_add (m n : Nat) (s : State) : divide (m + n) s = divide n (divide m s) := by
  induction m generalizing s with
  | zero => simp [divide]
  | succ m ih => rw [Nat.succ_add]; exact ih _

/-- A divider that has returned stays as it is (R68). -/
theorem divide_fix (n : Nat) {s : State} (h : s.phase = .fix) : divide n s = s := by
  induction n with
  | zero => rfl
  | succ n ih => simp only [divide, dividerStep, h]; exact ih

end Sys2Proof.Machine
end

