-- ==== Sys2Proof/Laws/Memory.lean ====
section
/-! SUPPORT. The memory: a configuration is read back word for word, loading gives the canonical form, and equal canonical
memories are equal data. -/

namespace Sys2Proof.Machine

variable {w : Nat}

/-! ### The cells of a space -/

/-- Every cell laid from `a` on has an address from `a` on. -/
theorem overlayFrom_addr_ge (ref words : List (BitVec w)) :
    ∀ a, ∀ p ∈ overlayFrom a ref words, a ≤ p.1 := by
  induction ref generalizing words with
  | nil => intro a p hp; cases words <;> cases hp
  | cons r ref ih =>
    intro a p hp
    cases words with
    | nil => cases hp
    | cons v words =>
      simp only [overlayFrom] at hp
      split at hp
      · exact Nat.le_of_succ_le (ih words _ p hp)
      · rcases List.mem_cons.mp hp with rfl | hp
        · exact Nat.le_refl _
        · exact Nat.le_of_succ_le (ih words _ p hp)

/-- The cells laid for `words` are in rising order. -/
theorem overlayFrom_rising (ref words : List (BitVec w)) :
    ∀ a, (overlayFrom a ref words).Pairwise (fun p q => p.1 < q.1) := by
  induction ref generalizing words with
  | nil => intro a; cases words <;> exact List.Pairwise.nil
  | cons r ref ih =>
    intro a
    cases words with
    | nil => exact List.Pairwise.nil
    | cons v words =>
      simp only [overlayFrom]
      split
      · exact ih words _
      · exact List.Pairwise.cons (fun p hp => overlayFrom_addr_ge ref words _ p hp) (ih words _)

/-- Every cell laid differs from the reference word of its address, which is in the reference. -/
theorem overlayFrom_differs (ref words : List (BitVec w)) :
    ∀ a, ∀ p ∈ overlayFrom a ref words, p.1 - a < ref.length ∧ p.2 ≠ ref.getD (p.1 - a) 0 := by
  induction ref generalizing words with
  | nil => intro a p hp; cases words <;> cases hp
  | cons r ref ih =>
    intro a p hp
    have rest : p ∈ overlayFrom (a + 1) ref words.tail →
        p.1 - a < (r :: ref).length ∧ p.2 ≠ (r :: ref).getD (p.1 - a) 0 := by
      intro h
      have hge := overlayFrom_addr_ge ref words.tail _ p h
      have ⟨hl, hd⟩ := ih words.tail _ p h
      obtain ⟨k, hk⟩ : ∃ k, p.1 - a = k + 1 := ⟨p.1 - a - 1, by omega⟩
      have hk' : p.1 - (a + 1) = k := by omega
      rw [hk'] at hl hd
      rw [hk]
      exact ⟨by simpa using hl, by simpa using hd⟩
    cases words with
    | nil => cases hp
    | cons v words =>
      simp only [overlayFrom] at hp
      split at hp
      · exact rest hp
      · rename_i hne
        rcases List.mem_cons.mp hp with rfl | hp
        · simpa using hne
        · exact rest hp

/-- No cell is listed below the first address. -/
theorem lookup_eq_none_of_lt (cells : List (Nat × BitVec w)) (a : Nat) (h : ∀ p ∈ cells, a < p.1) :
    cells.lookup a = none := by
  rw [List.lookup_eq_none_iff]
  intro p hp
  simpa using Nat.ne_of_lt (h p hp)

/-- Reading back what was laid: word for word, where the words and the reference have one length. -/
theorem readCells_overlayFrom (unlisted : Nat → BitVec w) (ref words : List (BitVec w)) :
    ∀ a k, ref.length = words.length → k < words.length → unlisted (a + k) = ref.getD k 0 →
      readCells unlisted (overlayFrom a ref words) (a + k) = words.getD k 0 := by
  induction ref generalizing words with
  | nil => intro a k hl hk; simp at hl; simp [← hl] at hk
  | cons r ref ih =>
    intro a k hl hk hu
    cases words with
    | nil => simp at hl
    | cons v words =>
      have below : (overlayFrom (a + 1) ref words).lookup a = none :=
        lookup_eq_none_of_lt _ _ fun p hp => overlayFrom_addr_ge ref words _ p hp
      simp only [overlayFrom]
      cases k with
      | zero =>
        simp only [Nat.add_zero, List.getD_cons_zero] at hu ⊢
        split
        · rename_i h; simp [readCells, below, hu, h]
        · simp [readCells]
      | succ k =>
        have step := ih words (a + 1) k (by simpa using hl) (by simpa using hk)
          (by rw [Nat.add_assoc, Nat.add_comm 1 k]; simpa using hu)
        rw [Nat.add_assoc, Nat.add_comm 1 k] at step
        rw [List.getD_cons_succ, ← step]
        split
        · rfl
        · have : (a + (k + 1) == a) = false := by simp
          simp [readCells, List.lookup_cons, this]

/-- Two canonical lists of cells that read alike are equal. -/
theorem cells_ext {depth : Nat} {unlisted : Nat → BitVec w} {c d : List (Nat × BitVec w)}
    (hc : CellsWf depth unlisted c) (hd : CellsWf depth unlisted d)
    (h : ∀ a, readCells unlisted c a = readCells unlisted d a) : c = d := by
  have mem_iff : ∀ {e : List (Nat × BitVec w)}, CellsWf depth unlisted e →
      ∀ p : Nat × BitVec w, p ∈ e ↔ p.2 ≠ unlisted p.1 ∧ readCells unlisted e p.1 = p.2 := by
    intro e he p
    constructor
    · intro hp
      refine ⟨(he.2 p hp).2, ?_⟩
      have : e.lookup p.1 = some p.2 := by
        have hr := he.1
        clear he h hc hd
        induction e with
        | nil => cases hp
        | cons q e ih =>
          rw [List.pairwise_cons] at hr
          rcases List.mem_cons.mp hp with rfl | hp
          · rw [List.lookup_cons_self]
          · have : (p.1 == q.1) = false := by simpa using Nat.ne_of_gt (hr.1 p hp)
            rw [List.lookup_cons, this]
            exact ih hp hr.2
      simp [readCells, this]
    · rintro ⟨hne, hr⟩
      cases hl : e.lookup p.1 with
      | none => simp [readCells, hl] at hr; exact absurd hr.symm hne
      | some v =>
        obtain ⟨l₁, l₂, he', -⟩ := List.lookup_eq_some_iff.mp hl
        have : v = p.2 := by simpa [readCells, hl] using hr
        subst this
        rw [he']; simp
  refine List.Perm.eq_of_pairwise (le := fun p q => p.1 < q.1) ?_ hc.1 hd.1 ?_
  · intro a b _ _ h₁ h₂; exact absurd h₁ (Nat.lt_asymm h₂)
  · rw [List.perm_ext_iff_of_nodup]
    · intro p; rw [mem_iff hc, mem_iff hd, h]
    · exact hc.1.imp (fun {p q} hlt (heq : p = q) => Nat.lt_irrefl _ (heq ▸ hlt))
    · exact hd.1.imp (fun {p q} hlt (heq : p = q) => Nat.lt_irrefl _ (heq ▸ hlt))

/-! ### The memory -/

theorem encRomReference_length : encRomReference.length = encDepth := by decide +kernel

theorem decRomReference_length : decRomReference.length = decDepth := by decide +kernel

/-- A listing in full rows of 64 words, read by address, is the words in order, and zero beyond them. -/
theorem rowWord_eq_getD (rows : List (List (BitVec w))) (h : ∀ r ∈ rows, r.length = 64) :
    ∀ a, rowWord rows a = rows.flatten.getD a 0 := by
  induction rows with
  | nil => intro a; simp [rowWord]
  | cons r rows ih =>
    intro a
    have hr : r.length = 64 := h r (by simp)
    rcases Nat.lt_or_ge a 64 with ha | ha
    · simp [rowWord, Nat.div_eq_of_lt ha, Nat.mod_eq_of_lt ha, List.getElem?_append_left (hr ▸ ha)]
    · have step := ih (fun r' h' => h r' (by simp [h'])) (a - 64)
      have hd : a / 64 = (a - 64) / 64 + 1 := by omega
      have hm : a % 64 = (a - 64) % 64 := by omega
      simp only [rowWord, hd, hm, List.getD_cons_succ] at step ⊢
      rw [step, List.flatten_cons, List.getD_append_right _ _ _ _ (by omega), hr]

theorem encUnlisted_eq (a : Nat) : encUnlisted a = encRomReference.getD a 0 :=
  rowWord_eq_getD encRomRows (by decide +kernel) a

theorem decUnlisted_eq (a : Nat) : decUnlisted a = decRomReference.getD a 0 := by
  refine (rowWord_eq_getD decRomRows (by decide +kernel) a).trans ?_
  rcases Nat.lt_or_ge a decRomRows.flatten.length with h | h
  · rw [decRomReference, List.getD_append _ _ _ _ h]
  · rw [decRomReference, List.getD_append_right _ _ _ _ h, List.getD_eq_default _ _ h]
    simp only [List.getD, List.getElem?_replicate]
    split <;> rfl

/-- Loading a configuration gives the canonical form. -/
theorem ofConfig_wf (c : Config) : (Memory.ofConfig c).wf := by
  refine ⟨⟨overlayFrom_rising _ _ _, fun p hp => ?_⟩, ⟨overlayFrom_rising _ _ _, fun p hp => ?_⟩⟩
  · have := overlayFrom_differs _ _ _ p hp
    rwa [encRomReference_length, Nat.sub_zero, ← encUnlisted_eq] at this
  · have := overlayFrom_differs _ _ _ p hp
    rwa [decRomReference_length, Nat.sub_zero, ← decUnlisted_eq] at this

/-- What is loaded is read back: the encode ROM. -/
theorem readEnc_ofConfig (c : Config) (h : c.encRom.length = encDepth) (a : Byte) :
    (Memory.ofConfig c).readEnc a = c.encRom.getD a.toNat 0 := by
  have := readCells_overlayFrom encUnlisted encRomReference c.encRom 0 a.toNat
    (by rw [encRomReference_length, h]) (by rw [h]; exact a.isLt) (by rw [Nat.zero_add]; exact encUnlisted_eq _)
  rwa [Nat.zero_add] at this

/-- What is loaded is read back: the decode ROM. -/
theorem readDec_ofConfig (c : Config) (h : c.decRom.length = decDepth) (a : BitVec 12) :
    (Memory.ofConfig c).readDec a = c.decRom.getD a.toNat 0 := by
  have := readCells_overlayFrom decUnlisted decRomReference c.decRom 0 a.toNat
    (by rw [decRomReference_length, h]) (by rw [h]; exact a.isLt) (by rw [Nat.zero_add]; exact decUnlisted_eq _)
  rwa [Nat.zero_add] at this

/-- Laying the reference words over themselves lists nothing. -/
theorem overlayFrom_self (ref : List (BitVec w)) : ∀ a, overlayFrom a ref ref = [] := by
  induction ref with
  | nil => intro a; rfl
  | cons r ref ih => intro a; simp only [overlayFrom, if_true]; exact ih _

/-- The reference configuration is the memory with nothing listed. -/
theorem ofConfig_reference : Memory.ofConfig referenceConfig = ⟨[], []⟩ := by
  simp only [Memory.ofConfig, referenceConfig, overlayFrom_self]

/-- The memory at reset is canonical. -/
theorem reset_mem_wf : State.reset.mem.wf :=
  ⟨⟨List.Pairwise.nil, nofun⟩, ⟨List.Pairwise.nil, nofun⟩⟩

end Sys2Proof.Machine
end

