-- ==== Sys2Proof/Laws/Operands.lean ====
section
/-! SUPPORT. The bits of every value that is put together from fields. -/

namespace Sys2Proof.Machine

/-- The bits of an `ENC` request (R44 format E). -/
theorem encode_enc_getLsbD (rsvd : BitVec 12) (v : DataPort) (j : Nat) :
    (encode (.enc rsvd v)).getLsbD j =
      if j < 12 then v.getLsbD j else if j < 24 then rsvd.getLsbD (j - 12) else false := by
  change BitVec.getLsbD ((0#1 ++ rsvd : BitVec (1 + 12)) ++ v : BitVec (1 + 12 + 12)) j = _
  simp only [BitVec.getLsbD_append]
  split
  · rfl
  · have : j - 12 < 12 ↔ j < 24 := by omega
    simp [this]

/-- The bits of a `DEC` request (R44 format D). -/
theorem encode_dec_getLsbD (b0 b1 b2 : Byte) (j : Nat) :
    (encode (.dec b0 b1 b2)).getLsbD j =
      if j < 8 then b2.getLsbD j else if j < 16 then b1.getLsbD (j - 8)
      else if j < 24 then b0.getLsbD (j - 16) else decide (j = 24) := by
  change BitVec.getLsbD
    (((1#1 ++ b0 : BitVec (1 + 8)) ++ b1 : BitVec (1 + 8 + 8)) ++ b2 : BitVec (1 + 8 + 8 + 8)) j = _
  simp only [BitVec.getLsbD_append]
  have h₁ : j - 8 < 8 ↔ j < 16 := by omega
  have h₂ : j - 8 - 8 < 8 ↔ j < 24 := by omega
  have h₃ : j - 8 - 8 = j - 16 := by omega
  split
  · rfl
  · rw [h₃] at h₂
    simp only [h₁, h₃, h₂]
    split
    · rfl
    · split
      · rfl
      · have : j - 16 - 8 = 0 ↔ j = 24 := by omega
        simp [BitVec.getLsbD_one, this]

/-- The bits of a packed codeword (R32). -/
theorem packCodeword_getLsbD (b0 b1 b2 : Byte) (j : Nat) :
    (packCodeword b0 b1 b2).getLsbD j =
      if j < 8 then b2.getLsbD j else if j < 16 then b1.getLsbD (j - 8) else b0.getLsbD (j - 16) := by
  change BitVec.getLsbD ((b0 ++ b1 : BitVec (8 + 8)) ++ b2 : BitVec (8 + 8 + 8)) j = _
  simp only [BitVec.getLsbD_append]
  have h₁ : j - 8 < 8 ↔ j < 16 := by omega
  have h₃ : j - 8 - 8 = j - 16 := by omega
  simp only [h₁, h₃]

/-- The bits of the argument of `ENC` (R44 format E). -/
theorem encArg_getLsbD (rsvd : BitVec 12) (v : DataPort) (j : Nat) :
    (encArg rsvd v).getLsbD j = if j < 12 then v.getLsbD j else rsvd.getLsbD (j - 12) := by
  change BitVec.getLsbD (rsvd ++ v : BitVec (12 + 12)) j = _
  simp only [BitVec.getLsbD_append]

/-- The bits of a reassembled code integer (R80): three fields that do not overlap. -/
theorem reassemble_getLsbD (b0 b1 b2 : Byte) (j : Nat) :
    (reassemble b0 b1 b2).getLsbD j =
      if j < 3 then b2.getLsbD (j + 5) else if j < 11 then b1.getLsbD (j - 3)
      else b0.getLsbD (j - 11) := by
  by_cases hj : j < 20
  · revert j
    simp only [reassemble, BitVec.getLsbD_or, BitVec.getLsbD_shiftLeft, BitVec.getLsbD_setWidth,
      BitVec.getLsbD_ushiftRight]
    intro j hj
    rcases Nat.lt_or_ge j 3 with h | h
    · have : j < 11 := by omega
      simp [h, hj, this, Nat.add_comm 5 j]
    · rcases Nat.lt_or_ge j 11 with h' | h'
      · have h₁ : ¬ j < 3 := by omega
        have h₂ : b2.getLsbD (5 + j) = false := BitVec.getLsbD_of_ge _ _ (by omega)
        have h₃ : j - 3 < 20 := by omega
        simp [h', hj, h₁, h₂, h₃]
      · have h₁ : ¬ j < 3 := by omega
        have h₂ : ¬ j < 11 := by omega
        have h₃ : b2.getLsbD (5 + j) = false := BitVec.getLsbD_of_ge _ _ (by omega)
        have h₄ : b1.getLsbD (j - 3) = false := BitVec.getLsbD_of_ge _ _ (by omega)
        have h₅ : j - 11 < 20 := by omega
        simp [hj, h₁, h₂, h₃, h₄, h₅]
  · have h₁ : ¬ j < 3 := by omega
    have h₂ : ¬ j < 11 := by omega
    rw [BitVec.getLsbD_of_ge _ _ (by omega)]
    simp [h₁, h₂, BitVec.getLsbD_of_ge b0 (j - 11) (by omega)]

end Sys2Proof.Machine
end

