-- ==== Sys2Proof/Laws/PerInstr.lean ====
section
/-! SUPPORT. Statements made per instruction, one lemma a constructor. -/

namespace Sys2Proof.Laws.TableRow

/-- The encoding of an instruction meets the match and mask of its row of `spec/opcode_table.json` (R44), and fits 25 bits. -/
def Statement (i : Instr) : Prop :=
  encode i &&& 0x1000000#25 =
      (match i with
       | .enc _ _ => 0x0000000#25
       | .dec _ _ _ => 0x1000000#25) ∧
    (encode i).toNat < 2 ^ 25

/-- The mask keeps bit 24 alone. -/
theorem mask_eq (r : Request) : r &&& 0x1000000#25 = if r.getLsbD 24 then 0x1000000#25 else 0 := by
  have : (0x1000000#25) = BitVec.twoPow 25 24 := by decide
  rw [this, BitVec.and_twoPow]; rfl

theorem enc (rsvd : BitVec 12) (v : DataPort) : Statement (.enc rsvd v) :=
  ⟨by rw [mask_eq, Machine.encode_enc_getLsbD]; rfl, (encode _).isLt⟩

theorem dec (b0 b1 b2 : Byte) : Statement (.dec b0 b1 b2) :=
  ⟨by rw [mask_eq, Machine.encode_dec_getLsbD]; rfl, (encode _).isLt⟩

end Sys2Proof.Laws.TableRow
end

