-- ==== Sys2Proof/Tests/Slice0.lean ====
section
/-! SUPPORT. The model's own tests: the checks refuse ill-formed terms, words written from the spec's encoding decode to what
they stand for, single steps against the spec's vectors (`95_test_vectors.md`), and a witness for the hypotheses of each
statement that has some. -/

set_option Elab.async false

namespace Sys2Proof.Tests

open Sys2Proof.Machine

/-! ### Well-formedness: each check refuses a term that breaks it -/

/-- The reference configuration with one word of the encode ROM changed. -/
def encChanged (a : Nat) (cs : Checksum) : Config :=
  { referenceConfig with encRom := referenceConfig.encRom.set a cs }

/-- The reference configuration with one word of the decode ROM changed. -/
def decChanged (a : Nat) (ep : CodeInt) : Config :=
  { referenceConfig with decRom := referenceConfig.decRom.set a ep }

theorem test_domain_refuses_value_above_ff : (Instr.enc 0 0x100).inDomain = false := by decide
theorem test_domain_refuses_reserved_bits : (Instr.enc 1 0).inDomain = false := by decide
theorem test_domain_accepts_ff : (Instr.enc 0 0xFF).inDomain = true := by decide

-- V20: a decode ROM of 2048 words is refused, and an encode ROM of 4096.
theorem test_short_dec_rom_refused :
    Config.lengthsOk { referenceConfig with decRom := decRomReference.take 2048 } = false := by decide +kernel
theorem test_long_enc_rom_refused :
    Config.lengthsOk { referenceConfig with encRom := List.replicate 4096 0 } = false := by decide +kernel

theorem test_enc_word_zero_refused : (encChanged 0 0x0100).encStatedOk = false := by decide +kernel
theorem test_enc_word_one_refused : (encChanged 1 0xA08E).encStatedOk = false := by decide +kernel
theorem test_enc_parity_refused : (encChanged 2 0xE092).encSyndromeOk = false := by decide +kernel
theorem test_dec_zero_refused : (decChanged 0 1).decZeroOk = false := by decide +kernel
theorem test_dec_single_refused : (decChanged 0x1ED 0).decSinglesOk = false := by decide +kernel
theorem test_short_dec_rom_single_refused : Config.decSingleOk ⟨[], []⟩ 0 = false := by decide +kernel

/-- Contents that break rule R94 are refused, a wrong length is the fault (V20, R94, R106). -/
theorem test_instantiate_stops :
    instantiate (encChanged 0 0x0100) = .refused .romContents ∧
      instantiate ⟨[], decRomReference⟩ = .fault (.tableIntegrity .encRom 0) := by
  have he : (encChanged 0 0x0100).encRom.length = encDepth := by decide +kernel
  have hd : (encChanged 0 0x0100).decRom.length = decDepth := by decide +kernel
  have h' : (encChanged 0 0x0100).contentsOk = false := by
    have := test_enc_word_zero_refused
    simp only [Config.contentsOk, this, Bool.false_and]
  refine ⟨?_, by rfl⟩
  unfold instantiate
  rw [if_neg (not_not.mpr he), if_neg (not_not.mpr hd), if_neg (by rw [h']; decide)]

/-! ### Decoding: words written bit by bit from R44's formats -/

-- op 0, rsvd 0000 0000 0000, v 0000 0101 1010 (P2: ENC 0x05A is REQ 0x000005A).
theorem test_decode_enc : decodeWord 0b0_000000000000_000001011010 = .ok (.enc 0x000 0x05A) := by rfl
-- op 0, rsvd 1000 0000 0001, v 1000 0000 0010: the ends of both fields.
theorem test_decode_enc_fields : decodeWord 0b0_100000000001_100000000010 = .ok (.enc 0x801 0x802) := by rfl
-- op 1, b0 1101 1010, b1 1110 0000, b2 0100 0000 (P2: DEC 0xDA, 0xE0, 0x40 is REQ 0x1DAE040).
theorem test_decode_dec : decodeWord 0b1_11011010_11100000_01000000 = .ok (.dec 0xDA 0xE0 0x40) := by rfl
theorem test_decode_rejects : decodeWord 0x2000000 = .error .widerThanRequest := by rfl
theorem test_encode_enc : encode (.enc 0x801 0x802) = 0b0_100000000001_100000000010#25 := by rfl
theorem test_encode_dec : encode (.dec 0xDA 0xE0 0x40) = 0x1DAE040#25 := by rfl

/-! ### The ROMs: the spec's check values of the transcription (R98, R102, V17, V18) -/

theorem test_enc_rom_sum : (encRomReference.map BitVec.toNat).sum = 0x787F80 := by decide +kernel
theorem test_enc_rom_xor : encRomReference.foldl (· ^^^ ·) 0 = 0 := by decide +kernel
theorem test_enc_rom_bit_twelve : encRomReference.countP (·.getLsbD 12) = 128 := by decide +kernel
theorem test_dec_rom_sum : (decRomReference.map BitVec.toNat).sum = 0x55FFF54 := by decide +kernel
theorem test_dec_rom_xor : decRomReference.foldl (· ^^^ ·) 0 = 0 := by decide +kernel
theorem test_dec_rom_nonzero : decRomReference.countP (· != 0) = 1159 := by decide +kernel
theorem test_enc_rom_spots :
    ([0x00, 0x01, 0x48, 0xAA, 0xFB, 0xFF] : List Byte).map State.reset.mem.readEnc =
      [0x0000, 0xB08E, 0xF005, 0xF01E, 0xA07F, 0xD0D6] := by decide +kernel
theorem test_dec_rom_spots :
    ([0x000, 0x001, 0x00F, 0x017, 0x01E, 0x1ED, 0x465, 0x5F4, 0x800, 0xFFF] : List (BitVec 12)).map
        State.reset.mem.readDec =
      [0x00000, 0x00001, 0x24020, 0x00000, 0x48040, 0x40000, 0x00810, 0x00000, 0x00000, 0x00000] := by
  decide +kernel

/-- A listed cell is read in place of the reference word, and no other. -/
theorem test_listed_cell :
    Memory.readEnc ⟨[(2, 0x1234)], []⟩ 2 = 0x1234 ∧ Memory.readEnc ⟨[(2, 0x1234)], []⟩ 3 = 0x501D := by
  decide +kernel

/-! ### Single steps -/

/-- The reset state with requests presented. -/
def presented (rs : List Request) : State := { State.reset with reqs := rs }

/-- A state in the given phase of a `DEC`, with its working registers. -/
def working (ph : Phase) (code : CodeInt) (pat aux : Word32) : State :=
  { State.reset with phase := ph, code := code, pat := pat, aux := aux }

/-- What a step leaves, where it goes on. -/
def nextOf (o : Host.Outcome State Fault Refusal) : Option State :=
  match o with
  | .next s => some s
  | .fault _ => none
  | .refused _ => none

-- V5: ENC 0x5A responds 0x5AA060.
theorem test_enc :
    (nextOf (step (presented [0x000005A]))).map (fun s => (s.res, s.err, s.phase, s.reqs)) =
      some (0x5AA060, 0, .idle, []) := by decide +kernel
-- V6: rsvd = 1 faults; the response is err 1, data 0.
theorem test_enc_fault :
    (nextOf (step (presented [0x0001000]))).map (fun s => (s.res, s.err, s.rsps)) =
      some (0x000000, 1, [0x1000000]) := by decide +kernel
-- V16, line 1.
theorem test_dec_first_step :
    (nextOf (step (presented [0x1DAA060]))).map (fun s => (s.code, s.pat, s.aux, s.phase)) =
      some (0x6D503, 0x0006D503, 0x00040000, .synT) := by decide +kernel
-- V16, line 22.
theorem test_dec_last_step :
    (nextOf (step (working .fix 0x6D503 0x1ED 0x1000))).map (fun s => (s.code, s.res, s.err, s.phase)) =
      some (0x2D503, 0x00005A, 0, .idle) := by decide +kernel
-- V16, lines 5, 7 and 21.
theorem test_divider_steps :
    (nextOf (step (working .synX 0x6D503 0x6D503 0x40000))).map (·.pat) = some 0xEF83 ∧
      (nextOf (step (working .synA 0x6D503 0xEF83 0x40000))).map (fun s => (s.aux, s.phase)) =
        some (0x20000, .synA) ∧
      (nextOf (step (working .synW 0x6D503 0x1ED 0x1000))).map (·.phase) = some .fix := by decide +kernel
-- V7: results of SYND; V11: no result.
theorem test_synd :
    synd 33 0x40000 = some 0x1ED ∧ synd 33 0x7FFFF = some 0x149 ∧ synd 33 0x2D4A7 = some 0x1A4 ∧
      synd 33 0x7FF = some 0x7FF ∧ synd 33 0x80001 = none := by decide +kernel
-- V19: reset applied in SYN_X: idle, RES and ERR zero, no response.
theorem test_reset_step :
    (nextOf (step { working .synX 0x6D503 0x6D503 0x40000 with rst := [true], err := 1 })).map
        (fun s => (s.phase, s.res, s.err, s.rsps)) = some (.idle, 0, 0, []) := by decide +kernel
theorem test_placed_words :
    step (State.reset.withFetchWord 32 0x000005A) = exec (.enc 0 0x05A) State.reset ∧
      step (State.reset.withFetchWord 32 0x1DAA060) = exec (.dec 0xDA 0xA0 0x60) State.reset := ⟨rfl, rfl⟩

/-! ### Witnesses: what meets the hypotheses of each statement that has some -/

theorem witness_DecodeOfEncodeIsTheInstruction :
    (Instr.enc 0xFFF 0xFFF).wellFormed = true ∧ (Instr.dec 0xFF 0xFF 0xFF).wellFormed = true := by decide
theorem witness_OpBitSelectsTheFormat :
    (0x0FFFFFF#25 &&& 0x1000000 = 0x0000000) ∧ (0x1000000#25 &&& 0x1000000 = 0x1000000) := by decide
theorem witness_ExactlyTheRequestsDecode : (0x1FFFFFF < 2 ^ 25) ∧ (2 ^ 25 ≤ 0x2000000) := by decide
theorem witness_EncFollowsItsPseudocode :
    State.reset.phase = .idle ∧ (((0#12 ++ 0x0FF#12 : Cw24).extractLsb' 8 16 = 0)) ∧
      ((0#12 ++ 0x100#12 : Cw24).extractLsb' 8 16 ≠ 0) ∧ ((1#12 ++ 0#12 : Cw24).extractLsb' 8 16 ≠ 0) ∧
      State.reset.mem.readEnc 0 = 0x0000 ∧ State.reset.mem.readEnc 1 = 0xB08E := by decide +kernel
theorem witness_EncFaultsExactlyAboveFF :
    State.reset.phase = .idle ∧ 0xFF < (0#12 ++ 0x100#12 : Cw24).toNat ∧
      ¬0xFF < (0#12 ++ 0x0FF#12 : Cw24).toNat := by decide
theorem witness_OutOfRangeFaultEntry :
    State.reset.phase = .idle ∧ 0xFF < (0#12 ++ 0x100#12 : Cw24).toNat := by decide
theorem witness_EncFrame :
    State.reset.phase = .idle ∧ exec (.enc 0 0x100) State.reset = .next (raiseOutOfRange State.reset) := ⟨rfl, rfl⟩
theorem witness_EncIsPure :
    State.reset.phase = .idle ∧ (working .idle 1 2 3).phase = .idle ∧
      ∀ a, State.reset.mem.readEnc a = (working .idle 1 2 3).mem.readEnc a := ⟨rfl, rfl, fun _ => rfl⟩
theorem witness_EncIsSystematic :
    State.reset.phase = .idle ∧ (0xFF#12 ≤ 0xFF) ∧
      exec (.enc 0 0xFF) State.reset = .next (respond (encodedWord State.reset.mem 0xFF) State.reset) :=
  ⟨rfl, by decide, rfl⟩
theorem witness_DecFirstStep :
    State.reset.phase = .idle ∧ (working .synT 0 0 x18).phase ≠ .idle ∧ (working .synT 0 0 x18).phase ≠ .fix ∧
      resetApplied (working .synT 0 0 x18) = false ∧
      step (working .synT 0 0 x18) = .next (working .fix 0 0 x18) := ⟨rfl, by decide, by decide, rfl, rfl⟩
theorem witness_DecIgnoresTheLowFiveBits :
    ((0x60 : Byte).extractLsb' 5 3 = (0x7F : Byte).extractLsb' 5 3) ∧
      ((0xB08E : Checksum).extractLsb' 0 8 = (0xAF8E : Checksum).extractLsb' 0 8) ∧
      ((0xB08E : Checksum).extractLsb' 13 3 = (0xAF8E : Checksum).extractLsb' 13 3) := by decide
theorem witness_DecFrame :
    exec (.dec 1 2 3) State.reset =
        .next (startDivider (pattern (reassemble 1 2 3)) { State.reset with code := reassemble 1 2 3 }) ∧
      (working .fix 0 0 x18).phase ≠ .idle ∧ resetApplied (working .fix 0 0 x18) = false ∧
      step (working .fix 0 0 x18) = .next (fixStep (working .fix 0 0 x18)) := ⟨rfl, by decide, rfl, rfl⟩
theorem witness_DecCompletes :
    State.reset.phase = .idle ∧ State.reset.NoReset ∧ State.reset.mem.readDec 0 = 0 :=
  ⟨rfl, nofun, by decide +kernel⟩
theorem witness_DecTakesThreeToThirtyFiveSteps :
    (presented [encode (.dec 0 0xFF 0xFF)]).phase = .idle ∧ (presented [encode (.dec 0 0xFF 0xFF)]).NoReset ∧
      (presented [encode (.dec 0 0xFF 0xFF)]).reqs = encode (.dec 0 0xFF 0xFF) :: [] ∧
      (reassemble 0 0xFF 0xFF).toNat < 0x800 := ⟨rfl, nofun, rfl, by decide⟩
theorem witness_FixLooksUpCorrectsAndResponds :
    (working .fix 0x6D503 0x1ED 0x1000).phase = .fix ∧
      resetApplied (working .fix 0x6D503 0x1ED 0x1000) = false := by decide
theorem witness_ZeroPatternLeavesTheCodeword :
    (working .fix 0x0C75 0 x18).phase = .fix ∧ resetApplied (working .fix 0x0C75 0 x18) = false ∧
      (working .fix 0x0C75 0 x18).mem.readDec (((0 : Word32).extractLsb' 0 11).setWidth 12) = 0 := by decide +kernel
theorem witness_ExtractedValueIsNineBits : (0x7FFFF : CodeInt).toNat < 2 ^ 19 := by decide
theorem witness_DividerStartsAtX18 :
    (working .synA 0 0xC75 0x1000).phase ≠ .idle ∧ resetApplied (working .synA 0 0xC75 0x1000) = false ∧
      step (working .synA 0 0x0075 0x1000) = .next (working .synA 0 0x0075 0x0800) := ⟨by decide, rfl, rfl⟩
theorem witness_ThresholdTest :
    (working .synT 0 0x800 x18).phase = .synT ∧ resetApplied (working .synT 0 0x800 x18) = false := by decide
theorem witness_LoopTest :
    (working .synW 0 0x7FF x18).phase = .synW ∧ resetApplied (working .synW 0 0x7FF x18) = false := by decide
theorem witness_AlignmentStep :
    (working .synA 0 0x800 0x1000).phase = .synA ∧ resetApplied (working .synA 0 0x800 0x1000) = false ∧
      (0x1000#32 &&& 0x0800 = 0) ∧ (0x1000#32 &&& 0x1000 ≠ 0) := by decide
theorem witness_CancellationStep :
    (working .synX 0 0xC75 0x800).phase = .synX ∧ resetApplied (working .synX 0 0xC75 0x800) = false ∧
      11 ≤ 11 ∧ 31 < 32 ∧ (0xC75#32).getLsbD 11 = true := by decide

/-- The state before the one cancellation of `DEC 0x01, 0x8E, 0xB0` (V2). -/
theorem working_synX_inv : (working .synX 0xC75 0xC75 0x800).Inv :=
  ⟨reset_mem_wf, .inl rfl, 11, by unfold AlignedAt; decide +kernel, by decide⟩

theorem witness_CancelOperandIsAShiftedGenerator :
    11 ≤ 31 ∧ 31 < 32 ∧ 10 < 11 ∧ (working .synX 0xC75 0xC75 0x800).Inv ∧
      (working .synX 0xC75 0xC75 0x800).phase = .synX := ⟨by decide, by decide, by decide, working_synX_inv, rfl⟩
theorem witness_SyndIsTheRemainder : (0x7FFFF : Word32).toNat < 2 ^ 19 := by decide
theorem witness_SyndromesAreBelowX11 : synd 33 0x40000 = some 0x1ED ∧ (0x7FF : Word32) < 0x800 := by decide +kernel
theorem witness_ThresholdShortcutIsRedundant :
    (working .synT 0 0x7FF x18).phase = .synT ∧ belowThreshold (working .synT 0 0x7FF x18).pat = true ∧
      (0x7FF : Word32) < 0x800 := by decide
theorem witness_SyndIsLinear :
    (0x7FFFF : Word32).toNat < 2 ^ 19 ∧ (0x7FF : Word32).toNat < 2 ^ 19 ∧ (0x7FF : Word32) < 0x800 := by decide
theorem witness_DividerStepBounds : (0x40000 : Word32).toNat < 2 ^ 19 := by decide
theorem witness_DividerHangsFromTwoToTheNineteen : 2 ^ 19 ≤ (0x80000 : Word32).toNat := by decide
theorem witness_PmodIsTheUniqueRemainder :
    (0x475 : Word32).toNat < 2 ^ 11 ∧ (0x800 ^^^ 0x475 : Word32) = genMultiple 1 21 := by decide +kernel

/-- The default contents meet the constraints of rule R94. -/
theorem reset_mem_valid : State.reset.mem.Valid := by
  unfold Memory.Valid Memory.EncValid Memory.DecValid
  decide +kernel

theorem witness_DistinctCodewordsDifferInSevenBits : State.reset.mem.EncValid ∧ (0 : Byte) ≠ 1 :=
  ⟨reset_mem_valid.1, by decide⟩
theorem witness_DecClosedForm :
    State.reset.phase = .idle ∧ (0x2D503 : CodeInt).toNat < 2 ^ 19 ∧ (0x40000 : CodeInt).toNat < 2 ^ 19 ∧
      synd 33 (pattern 0x2D503) = some 0 ∧ reassemble 0xDA 0xA0 0x60 = 0x2D503 ^^^ 0x40000 := by decide +kernel
theorem witness_RoundTrip : State.reset.phase = .idle ∧ State.reset.mem.Valid := ⟨rfl, reset_mem_valid⟩
theorem witness_SingleBitErrorsAreCorrected : State.reset.phase = .idle ∧ State.reset.mem.Valid ∧ 23 < 24 :=
  ⟨rfl, reset_mem_valid, by decide⟩
theorem witness_ThreeErrorsAreCorrected :
    (working .idle 1 2 3).phase = .idle ∧ (working .idle 1 2 3).mem = State.reset.mem ∧
      weight ((0x40201 : BitVec 19).setWidth 32) ≤ 3 := by decide
theorem witness_ReferenceDecRomFollowsItsRule :
    (0x70000 : CodeInt).toNat < 2 ^ 19 ∧ 1 ≤ weight (pattern 0x70000) ∧ weight (pattern 0x70000) ≤ 3 := by decide

/-- No error below `2^19` has a remainder at an address of the upper half. -/
theorem witness_ReferenceDecRomFollowsItsRule_elsewhere :
    ¬∃ e : CodeInt, e.toNat < 2 ^ 19 ∧ 1 ≤ weight (pattern e) ∧ weight (pattern e) ≤ 3 ∧
      (pmod (pattern e)).setWidth 12 = (0x800 : BitVec 12) := by
  rintro ⟨e, -, -, -, h⟩
  have hlt := pmod_lt (pattern e)
  have := congrArg BitVec.toNat h
  simp only [BitVec.toNat_setWidth, BitVec.ofNat_eq_ofNat, BitVec.toNat_ofNat] at this
  omega

theorem witness_ReferenceCorrectionsGiveCodewords :
    (0x7F8 : BitVec 12) < 0x800 ∧ State.reset.mem.readDec 0x7F8 ≠ 0 := by decide +kernel
theorem witness_WrongLengthIsTableIntegrity :
    instantiate ⟨[0], []⟩ = .fault (.tableIntegrity .encRom 1) ∧
      instantiate ⟨encRomReference, []⟩ = .fault (.tableIntegrity .decRom 0) := by
  refine ⟨by rfl, ?_⟩
  have h : encRomReference.length = encDepth := encRomReference_length
  unfold instantiate
  rw [if_neg (not_not.mpr h), if_pos (by decide)]
  rfl

/-- The reference configuration is well formed. -/
theorem reference_wellFormed : referenceConfig.wellFormed = true := by decide +kernel

theorem witness_InstanceHoldsItsConfiguration :
    referenceConfig.wellFormed = true ∧
      ∃ s, instantiate referenceConfig = .next s := by
  have h := reference_wellFormed
  simp only [Config.wellFormed, Config.lengthsOk, Bool.and_eq_true, beq_iff_eq] at h
  refine ⟨reference_wellFormed, { State.reset with mem := Memory.ofConfig referenceConfig }, ?_⟩
  unfold instantiate
  rw [if_neg (not_not.mpr h.1.1), if_neg (not_not.mpr h.1.2), if_pos h.2]

theorem witness_ResetState : ∃ s, instantiate referenceConfig = .next s := witness_InstanceHoldsItsConfiguration.2
theorem witness_CodewordsHaveSyndromeZero :
    State.reset.mem.EncValid ∧ ∃ s, instantiate referenceConfig = .next s :=
  ⟨reset_mem_valid.1, witness_InstanceHoldsItsConfiguration.2⟩
theorem witness_RomsNeverChange :
    runs 1 State.reset = .next State.reset ∧ exec (.enc 0 0x100) State.reset = .next (raiseOutOfRange State.reset) :=
  ⟨rfl, rfl⟩
theorem witness_UpperHalfIsNeverRead :
    let m : Memory := ⟨[], [(0x800, 0xFFFFF)]⟩
    (∀ a, m.readEnc a = State.reset.mem.readEnc a) ∧
      (∀ a : BitVec 12, a < 0x800 → m.readDec a = State.reset.mem.readDec a) ∧
      step State.reset = .next State.reset := by
  refine ⟨fun _ => rfl, fun a h => ?_, rfl⟩
  have : (a.toNat == 2048) = false := by
    simp only [BitVec.lt_def, BitVec.ofNat_eq_ofNat, BitVec.toNat_ofNat] at h
    simp; omega
  simp [Memory.readDec, readCells, List.lookup_cons, this, State.reset]
theorem witness_EveryStepKeepsTheInvariant :
    (working .synX 0xC75 0xC75 0x800).Inv ∧
      step (working .synX 0xC75 0xC75 0x800) = .next (cancelStep (working .synX 0xC75 0xC75 0x800)) :=
  ⟨working_synX_inv, rfl⟩
theorem witness_RequestsAreAcceptedOnlyWhenIdle :
    (presented [0x1DAA060]).phase = .idle ∧ resetApplied (presented [0x1DAA060]) = false ∧
      (presented [0x1DAA060]).reqs = 0x1DAA060 :: [] ∧ (working .synT 0 0 x18).phase ≠ .idle ∧
      resetApplied (working .synT 0 0 x18) = false := by decide
theorem witness_StepRunsThePresentedInstruction :
    (Instr.dec 1 2 3).wellFormed = true ∧ (presented [encode (.dec 1 2 3)]).phase = .idle ∧
      resetApplied (presented [encode (.dec 1 2 3)]) = false ∧
      (presented [encode (.dec 1 2 3)]).reqs = encode (.dec 1 2 3) :: [] := by decide
theorem witness_PlacedWordRunsNext : decodeTableWord 32 0x1DAA060 = some (.dec 0xDA 0xA0 0x60) := by decide
theorem witness_EachRequestGetsExactlyOneResponse :
    (presented [0x1DAA060, 0x0000001]).phase = .idle ∧ (presented [0x1DAA060, 0x0000001]).NoReset ∧
      (presented [0x1DAA060, 0x0000001]).reqs = 0x1DAA060 :: [0x0000001] := ⟨rfl, nofun, rfl⟩
theorem witness_RequestsAreAnsweredInOrder :
    (presented [0x1DAA060, 0x0000001]).phase = .idle ∧ (presented [0x1DAA060, 0x0000001]).NoReset := ⟨rfl, nofun⟩
theorem witness_LeftoverRegistersInfluenceNothing :
    (presented [0x0000100]).phase = .idle ∧
      runs 1 (presented [0x0000100]) = .next (raiseOutOfRange State.reset) := ⟨rfl, rfl⟩
theorem witness_PhaseTransitions :
    resetApplied (working .synA 0 0x0800 0x0800) = false ∧
      step (working .synA 0 0x0800 0x0800) = .next (working .synX 0 0x0800 0x0800) ∧ State.reset.phase = .idle ∧
      exec (.enc 0 0x100) State.reset = .next (raiseOutOfRange State.reset) ∧
      exec (.dec 1 2 3) State.reset =
        .next (startDivider (pattern (reassemble 1 2 3)) { State.reset with code := reassemble 1 2 3 }) :=
  ⟨rfl, rfl, rfl, rfl, rfl⟩
theorem witness_ResetInAnyPhase :
    resetApplied { State.reset with rst := [true] } = true ∧ Hung (working .synX 0 0x80001 1) ∧
      resetApplied (working .synX 0 0x80001 1) = false ∧
      step (working .synX 0 0x80001 1) = .next (working .synW 0 0x80001 1) := by
  refine ⟨rfl, ⟨by decide, by decide, by decide, by decide⟩, rfl, rfl⟩
theorem witness_ResultChangesOnlyAtCompletion :
    resetApplied (working .fix 0 0 x18) = false ∧
      step (working .fix 0 0 x18) = .next (fixStep (working .fix 0 0 x18)) ∧
      resetApplied { State.reset with rst := [true] } = true := ⟨rfl, rfl, rfl⟩
theorem witness_NoStepReadsTheResultRegisters :
    step (working .fix 0 0 x18) = .next (fixStep (working .fix 0 0 x18)) := rfl

end Sys2Proof.Tests
end

section
/-! The remainder `pmod` among the values below `2^11` (`00_scope.md` rule R10): the multiples of the generator are closed under
XOR, every power of two differs from its remainder by one of them, and a multiple of the generator has remainder zero. -/

namespace Sys2Proof.Machine

/-- Multiplication by the generator distributes over XOR. -/
theorem genMultiple_xor (q q' : Word32) (n : Nat) :
    genMultiple (q ^^^ q') n = genMultiple q n ^^^ genMultiple q' n := by
  induction n with
  | zero => exact BitVec.xor_self.symm
  | succ n ih =>
    have hbit : ∀ b b' : Bool, (if b ^^ b' then genpol <<< n else 0) =
        (if b then genpol <<< n else 0) ^^^ (if b' then genpol <<< n else 0) := by
      intro b b'; cases b <;> cases b' <;> simp
    simp only [genMultiple, ih, BitVec.getLsbD_xor, hbit]
    ac_rfl

/-- The quotient of `X^31`, the highest power in a register, by the generator. -/
def topQuotient : Word32 := 0x1F2500

/-- Dividing `X^i` takes the first steps of dividing `X^31`, so its quotient is the top of `topQuotient`. -/
theorem twoPow_xor_pmod : ∀ i, i < 32 →
    BitVec.twoPow 32 i ^^^ pmod (BitVec.twoPow 32 i) = genMultiple (topQuotient >>> (31 - i)) 21 := by decide +kernel

/-- A value and its remainder differ by a multiple of the generator. -/
theorem exists_xor_pmod_eq_genMultiple (p : Word32) : ∃ q, p ^^^ pmod p = genMultiple q 21 := by
  refine xor_induction (P := fun p => ∃ q, p ^^^ pmod p = genMultiple q 21) ⟨0, by decide +kernel⟩ ?_ 32
    (fun i hi => ⟨_, twoPow_xor_pmod i hi⟩) p p.isLt
  rintro a b ⟨q, hq⟩ ⟨q', hq'⟩
  refine ⟨q ^^^ q', ?_⟩
  rw [genMultiple_xor, ← hq, ← hq', pmod_xor]
  ac_rfl

/-- Values that differ by a multiple of the generator have the same remainder. -/
theorem pmod_eq_of_xor_eq_genMultiple {p r q : Word32} (h : p ^^^ r = genMultiple q 21) : pmod p = pmod r := by
  rw [← BitVec.xor_eq_zero_iff, ← pmod_xor, h]
  exact pmod_genMultiple q 21 le_rfl

/-- Settles O33: existence bit by bit, as `pmod` is linear; uniqueness because a multiple of the generator has remainder zero and
an 11-bit value is its own remainder. -/
theorem pmodIsTheUniqueRemainder : Obligations.PmodIsTheUniqueRemainder := by
  refine fun p => ⟨pmod_lt p, exists_xor_pmod_eq_genMultiple p, ?_⟩
  rintro r hr ⟨q, hq⟩
  rw [pmod_eq_of_xor_eq_genMultiple hq, pmod_of_lt hr]

end Sys2Proof.Machine
end

section
/-! The state: what reset gives it (`10_state.md` rule R26), and that no step, instruction or host action changes a ROM (rule
R25). -/

namespace Sys2Proof.Machine

/-- Everything a run of at least one step can do: a step, and the rest of the run. -/
theorem runs_succ_cases {n : Nat} {s t : State} (h : runs (n + 1) s = .next t) :
    ∃ u, step s = .next u ∧ runs n u = .next t := by
  rw [runs] at h
  cases hs : step s with
  | next u => rw [hs] at h; exact ⟨u, rfl, h⟩
  | fault f => rw [hs] at h; cases h
  | refused r => rw [hs] at h; cases h

/-- What every step keeps, every run keeps. -/
theorem runs_keeps {P : State → Prop} (hstep : ∀ s t, P s → step s = .next t → P t) {n : Nat} {s t : State}
    (hs : P s) (h : runs n s = .next t) : P t := by
  induction n generalizing s with
  | zero => injection h with h; exact h ▸ hs
  | succ n ih =>
    obtain ⟨u, hu, hrest⟩ := runs_succ_cases h
    exact ih (hstep s u hs hu) hrest

/-- Neither operation writes a ROM (R25). -/
theorem exec_mem {i : Instr} {s t : State} (h : exec i s = .next t) : t.mem = s.mem := by
  cases i with
  | enc rsvd v => obtain ⟨-, rfl⟩ | ⟨-, rfl⟩ := execEnc_cases h <;> exact complete_mem _ _ _
  | dec b0 b1 b2 => obtain rfl := execDec_cases h; exact startDivider_mem _ _

/-- No step writes a ROM: not a reset, a wait, an accepted request, nor a micro-step (R25). -/
theorem step_mem {s t : State} (h : step s = .next t) : t.mem = s.mem := by
  obtain ⟨-, rfl⟩ | ⟨-, ⟨-, -, rfl⟩ | ⟨r, later, -, -, hexec⟩ | ⟨-, rfl⟩ | ⟨-, rfl⟩ | ⟨-, rfl⟩ | ⟨-, rfl⟩ |
    ⟨-, rfl⟩⟩ := stepWith_cases h
  case inr.inr.inl => exact (exec_mem hexec).trans (tick_mem s)
  all_goals simp

/-- Settles O45: each step keeps the memory, so each run does, by induction on its length. -/
theorem romsNeverChange : Obligations.RomsNeverChange := by
  refine ⟨fun n s t h => ?_, fun s t i h => exec_mem h,
    fun s r => ⟨hostRequests_mem s r, hostResets_mem s, presentNext_mem s r⟩⟩
  exact runs_keeps (P := fun u => u.mem = s.mem) (fun u v hu hv => (step_mem hv).trans hu) rfl h

/-- Settles O47: an instance is the reset state with the configuration's memory. -/
theorem resetState : Obligations.ResetState := by
  refine ⟨rfl, rfl, rfl, fun c s h => ?_, rfl, rfl, rfl, rfl⟩
  obtain ⟨-, -, -, rfl⟩ := instantiate_cases h
  exact ⟨rfl, rfl, rfl, rfl⟩

end Sys2Proof.Machine
end

section
/-! Requests (`30_encoding.md`): the op bit selects the format (rule R44), and a request is accepted in `IDLE` only (rule R45). -/

namespace Sys2Proof.Machine

/-- Settles O3: the mask keeps the op bit, which is what the decoder tests. -/
theorem opBitSelectsTheFormat : Obligations.OpBitSelectsTheFormat := by
  intro r
  have hmask : r &&& 0x1000000 = if r.getLsbD 24 then (0x1000000 : Request) else 0 := Laws.TableRow.mask_eq r
  rw [hmask]
  cases hop : r.getLsbD 24 with
  | false => exact ⟨fun _ => by rw [decodeRequest, hop]; rfl, fun h => absurd h (by decide), .inl rfl⟩
  | true => exact ⟨fun h => absurd h (by decide), fun _ => by rw [decodeRequest, hop]; rfl, .inr rfl⟩

/-- With reset not applied, a step is the micro-step of the phase (R16, R116). -/
theorem step_eq_phaseStep {s : State} (h : resetApplied s = false) : step s = phaseStep exec (tick s) := by
  simp [step, stepWith, h]

/-- An idle block executes the request presented first (R45). -/
theorem step_idle {s : State} {r : Request} {later : List Request} (hp : s.phase = .idle)
    (hr : resetApplied s = false) (hq : s.reqs = r :: later) :
    step s = exec (decodeRequest r) { s with reqs := later, rst := s.rst.tail } := by
  simp [step_eq_phaseStep hr, phaseStep, hp, acceptStep, fetchRequest, hq, tick]

/-- In the four phases of the divider, a step is the divider's (R16). -/
theorem step_dividing {s : State} (hi : s.phase ≠ .idle) (hf : s.phase ≠ .fix) (hr : resetApplied s = false) :
    step s = .next (dividerStep (tick s)) := by
  rw [step_eq_phaseStep hr]
  cases hp : s.phase with
  | idle => exact absurd hp hi
  | fix => exact absurd hp hf
  | synT | synW | synA | synX => simp [phaseStep, dividerStep, hp]

/-- In `FIX`, a step ends the operation (R16, R82). -/
theorem step_fix {s : State} (hp : s.phase = .fix) (hr : resetApplied s = false) :
    step s = .next (fixStep (tick s)) := by
  simp [step_eq_phaseStep hr, phaseStep, hp]

/-- All that a divider step changes is `PHASE`, `PAT` and `AUX` (R63 to R66). -/
theorem dividerStep_frame (s : State) : dividerStep s =
    { s with phase := (dividerStep s).phase, pat := (dividerStep s).pat, aux := (dividerStep s).aux } := by
  unfold dividerStep
  cases s.phase with
  | synA => simp only [alignStep]; cases overlaps s.aux s.pat <;> rfl
  | idle | synT | synW | synX | fix => rfl

@[simp] theorem dividerStep_reqs (s : State) : (dividerStep s).reqs = s.reqs := by rw [dividerStep_frame]

/-- Settles O50: accepting is a step of `IDLE`, and neither a divider step nor `FIX` touches what is presented. -/
theorem requestsAreAcceptedOnlyWhenIdle : Obligations.RequestsAreAcceptedOnlyWhenIdle := by
  refine ⟨fun s r later hp hr hq => step_idle hp hr hq, fun s hi hr => ?_⟩
  by_cases hf : s.phase = .fix
  · exact ⟨_, step_fix hf hr, by simp⟩
  · exact ⟨_, step_dividing hi hf hr, by simp⟩

end Sys2Proof.Machine
end

section
/-! The divider returns: each of its steps keeps the invariant of `41_syndrome.md` rule R69 and lowers a bound on the steps
left. -/

namespace Sys2Proof.Machine

/-! ### The divider's four phases, on `AlignedAt` -/

/-- For `AUX = 2^k` the cancellation operand is the generator with its top bit at `k` (R66, R67). -/
theorem cancelOperand_twoPow : ∀ k, k < 32 → 11 ≤ k →
    cancelOperand (BitVec.twoPow 32 k) = genpol <<< (k - 11) := by decide +kernel

/-- The generator shifted to `k` has its top bit there. -/
theorem genpol_shift_top : ∀ k, k < 32 → 11 ≤ k →
    (genpol <<< (k - 11)).getLsbD k = true ∧ (genpol <<< (k - 11)).toNat < 2 ^ (k + 1) := by decide +kernel

/-- The divider starts aligned at the seed's bit 18 (R62). -/
theorem alignedAt_seed {s : State} (ha : s.aux = x18) (hp : s.pat = pattern s.code) (hc : s.code.toNat < 2 ^ 19) :
    AlignedAt 18 s := by
  have hw : (pattern s.code).toNat < 2 ^ 19 := by simp [pattern]; omega
  exact ⟨by omega, by omega, ha.trans (by decide), hp ▸ hw, congrArg pmod hp, hc⟩

/-- A pattern below the mask region is the remainder (R68, R70). -/
theorem AlignedAt.remainder {k : Nat} {s : State} (h : AlignedAt k s) (hlt : s.pat.toNat < 2 ^ 11) :
    s.pat = pmod (pattern s.code) ∧ s.pat < x11 ∧ s.code.toNat < 2 ^ 19 := by
  obtain ⟨-, -, -, -, hmod, hcode⟩ := h
  exact ⟨(pmod_of_lt hlt).symm.trans hmod, hlt, hcode⟩

/-- Where the pattern is in the mask region and misses bit `k`, that bit is not the lowest of the region. -/
theorem AlignedAt.lt_of_not_overlaps {k : Nat} {s : State} (h : AlignedAt k s) (hm : 2 ^ 11 ≤ s.pat.toNat)
    (ho : s.pat.getLsbD k = false) : 11 < k := by
  obtain ⟨-, -, -, hpat, -, -⟩ := h
  exact (Nat.pow_lt_pow_iff_right (by omega)).mp (lt_of_le_of_lt hm (toNat_lt_of_top_clear hpat ho))

/-- The shift of `SYN_A` aligns one bit lower (R65). -/
theorem AlignedAt.shift {k : Nat} {s : State} (h : AlignedAt k s) (hk : 11 < k) (ho : s.pat.getLsbD k = false) :
    AlignedAt (k - 1) { s with aux := s.aux >>> 1 } := by
  obtain ⟨-, hle, haux, hpat, hmod, hcode⟩ := h
  refine ⟨by omega, by omega, ?_, ?_, hmod, hcode⟩
  · rw [haux]; exact twoPow_ushiftRight_one (by omega) (by omega)
  · rw [show k - 1 + 1 = k by omega]; exact toNat_lt_of_top_clear hpat ho

/-- The cancellation of `SYN_X` clears the pattern's top bit (R66). -/
theorem AlignedAt.cancel_lt {k : Nat} {s : State} (h : AlignedAt k s) (ho : s.pat.getLsbD k = true) :
    (s.pat ^^^ cancelOperand s.aux).toNat < 2 ^ k := by
  obtain ⟨hge, hle, haux, hpat, -, -⟩ := h
  obtain ⟨htop, hlt⟩ := genpol_shift_top k (by omega) hge
  rw [haux, cancelOperand_twoPow k (by omega) hge]
  exact toNat_lt_of_top_clear (xor_lt_two_pow hpat hlt) (by rw [BitVec.getLsbD_xor, ho, htop]; rfl)

/-- And it keeps the remainder, as it adds a multiple of the generator (R70). -/
theorem AlignedAt.cancel {k : Nat} {s : State} (h : AlignedAt k s) (ho : s.pat.getLsbD k = true) :
    AlignedAt k (cancelStep s) := by
  have hlt := h.cancel_lt ho
  obtain ⟨hge, hle, haux, -, hmod, hcode⟩ := h
  refine ⟨hge, hle, haux, hlt.trans (Nat.pow_lt_pow_succ (by omega)), ?_, hcode⟩
  rw [cancelStep_pat, haux, cancelOperand_twoPow k (by omega) hge, pmod_xor, pmod_genpol_shift _ (by omega), hmod]
  exact BitVec.xor_zero

/-! ### The invariant -/

/-- The invariant, phase by phase (R69, R71, R79, R81). -/
theorem dividerInv_synT {s : State} (hp : s.phase = .synT) :
    DividerInv s ↔ s.aux = x18 ∧ s.pat = pattern s.code ∧ s.code.toNat < 2 ^ 19 := by simp only [DividerInv, hp]
theorem dividerInv_synW {s : State} (hp : s.phase = .synW) : DividerInv s ↔ ∃ k, AlignedAt k s := by
  simp only [DividerInv, hp]
theorem dividerInv_synA {s : State} (hp : s.phase = .synA) :
    DividerInv s ↔ inMaskRegion s.pat = true ∧ ∃ k, AlignedAt k s := by simp only [DividerInv, hp]
theorem dividerInv_synX {s : State} (hp : s.phase = .synX) :
    DividerInv s ↔ ∃ k, AlignedAt k s ∧ s.pat.getLsbD k = true := by simp only [DividerInv, hp]
theorem dividerInv_fix {s : State} (hp : s.phase = .fix) :
    DividerInv s ↔ s.pat = pmod (pattern s.code) ∧ s.pat < x11 ∧ s.code.toNat < 2 ^ 19 := by
  simp only [DividerInv, hp]

/-! ### The steps left -/

/-- What is left of a division: three steps (`SYN_W`, the last `SYN_A`, `SYN_X`) for each bit of `PAT[31:11]` that may still be
cancelled, and one for each shift `AUX` may still make (R74). -/
def divisionWork (s : State) : Nat := 3 * (s.pat.toNat.size - 11) + (s.aux.toNat.size - 12)

/-- A bound on the micro-steps a division still takes (R74). -/
def divisionStepsLeft (s : State) : Nat :=
  match s.phase with
  | .idle | .fix => 0
  | .synT => divisionWork s + 2
  | .synW => divisionWork s + 1
  | .synA => divisionWork s
  | .synX => divisionWork s - 1

theorem divisionStepsLeft_synT {s : State} (hp : s.phase = .synT) : divisionStepsLeft s = divisionWork s + 2 := by
  simp only [divisionStepsLeft, hp]
theorem divisionStepsLeft_synW {s : State} (hp : s.phase = .synW) : divisionStepsLeft s = divisionWork s + 1 := by
  simp only [divisionStepsLeft, hp]
theorem divisionStepsLeft_synA {s : State} (hp : s.phase = .synA) : divisionStepsLeft s = divisionWork s := by
  simp only [divisionStepsLeft, hp]
theorem divisionStepsLeft_synX {s : State} (hp : s.phase = .synX) : divisionStepsLeft s = divisionWork s - 1 := by
  simp only [divisionStepsLeft, hp]
theorem divisionStepsLeft_fix {s : State} (hp : s.phase = .fix) : divisionStepsLeft s = 0 := by
  simp only [divisionStepsLeft, hp]

/-- `AUX = 2^k` has `k + 1` bits. -/
theorem AlignedAt.size_aux {k : Nat} {s : State} (h : AlignedAt k s) : s.aux.toNat.size = k + 1 := by
  obtain ⟨-, hle, haux, -, -, -⟩ := h
  have : 2 ^ k < 2 ^ 32 := Nat.pow_lt_pow_right (by omega) (by omega)
  rw [haux, BitVec.toNat_twoPow, Nat.mod_eq_of_lt this, Nat.size_pow]

/-- The threshold test keeps the invariant and makes progress. -/
theorem thresholdTest_progress {s : State} (hp : s.phase = .synT) (h : DividerInv s) :
    DividerInv (thresholdTest s) ∧ divisionStepsLeft (thresholdTest s) < divisionStepsLeft s := by
  obtain ⟨haux, hpat, hcode⟩ := (dividerInv_synT hp).mp h
  have hal := alignedAt_seed haux hpat hcode
  rw [divisionStepsLeft_synT hp]
  cases hb : belowThreshold s.pat with
  | true =>
    have hp' : (thresholdTest s).phase = .fix := by simp [hb]
    rw [dividerInv_fix hp', divisionStepsLeft_fix hp']
    exact ⟨hal.remainder ((belowThreshold_iff _).mp hb), by omega⟩
  | false =>
    have hp' : (thresholdTest s).phase = .synW := by simp [hb]
    rw [dividerInv_synW hp', divisionStepsLeft_synW hp']
    exact ⟨⟨18, hal⟩, Nat.lt_succ_self _⟩

/-- The loop test keeps the invariant and makes progress. -/
theorem loopTest_progress {s : State} (hp : s.phase = .synW) (h : DividerInv s) :
    DividerInv (loopTest s) ∧ divisionStepsLeft (loopTest s) < divisionStepsLeft s := by
  obtain ⟨k, hal⟩ := (dividerInv_synW hp).mp h
  rw [divisionStepsLeft_synW hp]
  cases hm : inMaskRegion s.pat with
  | true =>
    have hp' : (loopTest s).phase = .synA := by simp [hm]
    rw [dividerInv_synA hp', divisionStepsLeft_synA hp']
    exact ⟨⟨hm, k, hal⟩, Nat.lt_succ_self _⟩
  | false =>
    have hp' : (loopTest s).phase = .fix := by simp [hm]
    have hlt : s.pat.toNat < 2 ^ 11 := by
      rw [← Nat.not_le, ← inMaskRegion_iff, hm]; exact Bool.false_ne_true
    rw [dividerInv_fix hp', divisionStepsLeft_fix hp']
    exact ⟨hal.remainder hlt, by omega⟩

/-- The alignment step keeps the invariant and makes progress: it shifts `AUX`, or finds the bit to cancel. -/
theorem alignStep_progress {s : State} (hp : s.phase = .synA) (h : DividerInv s) :
    DividerInv (alignStep s) ∧ divisionStepsLeft (alignStep s) < divisionStepsLeft s := by
  obtain ⟨hm, k, hal⟩ := (dividerInv_synA hp).mp h
  have hge := (inMaskRegion_iff _).mp hm
  have hbit : overlaps s.aux s.pat = s.pat.getLsbD k := by
    obtain ⟨-, -, haux, -⟩ := hal
    rw [haux, overlaps_twoPow]
  have hsize : 11 < s.pat.toNat.size := Nat.lt_size.mpr hge
  have haux := hal.size_aux
  rw [divisionStepsLeft_synA hp]
  unfold alignStep
  cases ho : s.pat.getLsbD k with
  | true =>
    rw [hbit, ho, cond_true, dividerInv_synX rfl, divisionStepsLeft_synX rfl]
    refine ⟨⟨k, hal, ho⟩, ?_⟩
    simp only [divisionWork]
    omega
  | false =>
    have hk := hal.lt_of_not_overlaps hge ho
    have hal' := hal.shift hk ho
    have haux' := hal'.size_aux
    have hp' : ({ s with aux := s.aux >>> 1 } : State).phase = .synA := hp
    rw [hbit, ho, cond_false, dividerInv_synA hp', divisionStepsLeft_synA hp']
    refine ⟨⟨hm, k - 1, hal'⟩, ?_⟩
    simp only [divisionWork] at haux' ⊢
    omega

/-- The cancellation keeps the invariant and makes progress, as the pattern loses its top bit. -/
theorem cancelStep_progress {s : State} (hp : s.phase = .synX) (h : DividerInv s) :
    DividerInv (cancelStep s) ∧ divisionStepsLeft (cancelStep s) < divisionStepsLeft s := by
  obtain ⟨k, hal, ho⟩ := (dividerInv_synX hp).mp h
  have hsize : k < s.pat.toNat.size := Nat.lt_size.mpr (Nat.ge_two_pow_of_testBit ho)
  have hsize' : (cancelStep s).pat.toNat.size ≤ k := Nat.size_le.mpr (hal.cancel_lt ho)
  rw [divisionStepsLeft_synX hp, dividerInv_synW rfl, divisionStepsLeft_synW rfl]
  refine ⟨⟨k, hal.cancel ho⟩, ?_⟩
  obtain ⟨hge, -⟩ := hal
  simp only [divisionWork, cancelStep_aux]
  omega

/-- Every divider step keeps the invariant. -/
theorem dividerStep_keeps_inv {s : State} (h : DividerInv s) : DividerInv (dividerStep s) := by
  cases hp : s.phase <;> simp only [dividerStep, hp]
  case synT => exact (thresholdTest_progress hp h).1
  case synW => exact (loopTest_progress hp h).1
  case synA => exact (alignStep_progress hp h).1
  case synX => exact (cancelStep_progress hp h).1
  case idle | fix => exact h

/-- No divider step leaves an operation without a response: the phase does not become `IDLE` (R16). -/
theorem dividerStep_phase_ne_idle {s : State} (hi : s.phase ≠ .idle) : (dividerStep s).phase ≠ .idle := by
  unfold dividerStep
  cases hp : s.phase with
  | idle => exact absurd hp hi
  | synT => simp only [thresholdTest_phase]; cases belowThreshold s.pat <;> simp
  | synW => simp only [loopTest_phase]; cases inMaskRegion s.pat <;> simp
  | synA => simp only [alignStep_phase, hp]; cases overlaps s.aux s.pat <;> simp
  | synX | fix => simp [hp]

/-- Every divider step before the return makes progress. -/
theorem dividerStep_progress {s : State} (h : DividerInv s) (hi : s.phase ≠ .idle) (hf : s.phase ≠ .fix) :
    divisionStepsLeft (dividerStep s) < divisionStepsLeft s := by
  cases hp : s.phase <;> simp only [dividerStep, hp]
  case synT => exact (thresholdTest_progress hp h).2
  case synW => exact (loopTest_progress hp h).2
  case synA => exact (alignStep_progress hp h).2
  case synX => exact (cancelStep_progress hp h).2
  case idle => exact absurd hp hi
  case fix => exact absurd hp hf

/-! ### Runs of the divider -/

/-- The divider keeps its invariant. -/
theorem divide_keeps_inv {s : State} (h : DividerInv s) (n : Nat) : DividerInv (divide n s) := by
  induction n generalizing s with
  | zero => exact h
  | succ n ih => exact ih (dividerStep_keeps_inv h)

/-- Within the bound, the divider has returned (R68, R74). -/
theorem divide_returns {s : State} {n : Nat} (h : DividerInv s) (hi : s.phase ≠ .idle)
    (hn : divisionStepsLeft s ≤ n) : (divide n s).phase = .fix := by
  induction n generalizing s with
  | zero =>
    by_contra hf
    exact absurd (dividerStep_progress h hi hf) (by omega)
  | succ n ih =>
    by_cases hf : s.phase = .fix
    · rw [divide_fix _ hf]; exact hf
    · have hlt := dividerStep_progress h hi hf
      exact ih (dividerStep_keeps_inv h) (dividerStep_phase_ne_idle hi) (by omega)

/-- The last of the divider's steps. -/
theorem divide_succ (n : Nat) (s : State) : divide (n + 1) s = dividerStep (divide n s) := divide_add n 1 s

/-- The divider does not go to `IDLE`. -/
theorem divide_phase_ne_idle {s : State} (hi : s.phase ≠ .idle) (n : Nat) : (divide n s).phase ≠ .idle := by
  induction n with
  | zero => exact hi
  | succ n ih => rw [divide_succ]; exact dividerStep_phase_ne_idle ih

/-- All that the divider changes is `PHASE`, `PAT` and `AUX`. -/
theorem divide_frame (n : Nat) (s : State) : divide n s =
    { s with phase := (divide n s).phase, pat := (divide n s).pat, aux := (divide n s).aux } := by
  induction n generalizing s with
  | zero => rfl
  | succ n ih =>
    obtain ⟨p, w, a, hstep⟩ : ∃ p w a, dividerStep s = { s with phase := p, pat := w, aux := a } :=
      ⟨_, _, _, dividerStep_frame s⟩
    rw [divide, ih, hstep]

@[simp] theorem divide_code (n : Nat) (s : State) : (divide n s).code = s.code := by rw [divide_frame]
@[simp] theorem divide_mem (n : Nat) (s : State) : (divide n s).mem = s.mem := by rw [divide_frame]
@[simp] theorem divide_reqs (n : Nat) (s : State) : (divide n s).reqs = s.reqs := by rw [divide_frame]
@[simp] theorem divide_rsps (n : Nat) (s : State) : (divide n s).rsps = s.rsps := by rw [divide_frame]

/-! ### The reset input -/

/-- The state with other coming levels of the reset input. -/
def setRst (l : List Bool) (s : State) : State := { s with rst := l }

@[simp] theorem setRst_phase (l : List Bool) (s : State) : (setRst l s).phase = s.phase := rfl
@[simp] theorem setRst_code (l : List Bool) (s : State) : (setRst l s).code = s.code := rfl
@[simp] theorem setRst_pat (l : List Bool) (s : State) : (setRst l s).pat = s.pat := rfl
@[simp] theorem setRst_aux (l : List Bool) (s : State) : (setRst l s).aux = s.aux := rfl
@[simp] theorem setRst_mem (l : List Bool) (s : State) : (setRst l s).mem = s.mem := rfl
@[simp] theorem setRst_reqs (l : List Bool) (s : State) : (setRst l s).reqs = s.reqs := rfl
@[simp] theorem setRst_rst (l : List Bool) (s : State) : (setRst l s).rst = l := rfl
@[simp] theorem setRst_rsps (l : List Bool) (s : State) : (setRst l s).rsps = s.rsps := rfl
@[simp] theorem tick_setRst (l : List Bool) (s : State) : tick (setRst l s) = setRst l.tail s := rfl

/-- No divider step reads the reset input. -/
theorem dividerStep_setRst (l : List Bool) (s : State) : dividerStep (setRst l s) = setRst l (dividerStep s) := by
  cases hp : s.phase <;> simp only [dividerStep, setRst_phase, hp]
  case synA =>
    simp only [alignStep, setRst_aux, setRst_pat]
    cases overlaps s.aux s.pat <;> rfl
  all_goals rfl

end Sys2Proof.Machine
end

section
/-! Responses (`30_encoding.md` rule R46): a run takes an accepted request through its operation to its one response. -/

namespace Sys2Proof.Machine

/-! ### Runs -/

/-- A run's first step. -/
theorem runs_succ_of_step {s t : State} (h : step s = .next t) (n : Nat) : runs (n + 1) s = runs n t := by
  simp only [runs, h]

/-- A run's last step. -/
theorem runs_succ_of_runs {n : Nat} {s t : State} (h : runs n s = .next t) : runs (n + 1) s = step t := by
  induction n generalizing s with
  | zero =>
    injection h with h
    subst h
    rw [runs]; cases step s <;> rfl
  | succ n ih =>
    obtain ⟨u, hu, hrest⟩ := runs_succ_cases h
    rw [runs_succ_of_step hu]
    exact ih hrest

/-- Where no reset is coming, none is applied after any number of levels. -/
theorem State.NoReset.resetApplied_drop_eq_false {s : State} (h : s.NoReset) (n : Nat) (t : State) :
    resetApplied (setRst (s.rst.drop n) t) = false := by
  rw [resetApplied, setRst_rst, List.head?_drop]
  cases hb : s.rst[n]? with
  | none => rfl
  | some b => exact h b (List.mem_of_getElem? hb)

theorem State.NoReset.resetApplied_eq_false {s : State} (h : s.NoReset) : resetApplied s = false :=
  h.resetApplied_drop_eq_false 0 s

/-- Until the divider returns, a run of a busy block is the divider's, and uses up the reset input. -/
theorem runs_dividing {s : State} (hi : s.phase ≠ .idle) (hr : s.NoReset) {n : Nat}
    (hf : ∀ m < n, (divide m s).phase ≠ .fix) : runs n s = .next (setRst (s.rst.drop n) (divide n s)) := by
  induction n with
  | zero => rfl
  | succ n ih =>
    have hstep := step_dividing (s := setRst (s.rst.drop n) (divide n s)) (divide_phase_ne_idle hi n)
      (hf n (by omega)) (hr.resetApplied_drop_eq_false n _)
    rw [runs_succ_of_runs (ih fun m hm => hf m (by omega)), hstep, tick_setRst, List.tail_drop, dividerStep_setRst,
      divide_succ]

/-- A busy block that meets the invariant takes the divider's steps, at most as many as the bound, and then `FIX` (R74, R81). -/
theorem runs_busy {s : State} (h : DividerInv s) (hi : s.phase ≠ .idle) (hr : s.NoReset) :
    ∃ n ≤ divisionStepsLeft s, (divide n s).phase = .fix ∧
      runs (n + 1) s = .next (fixStep (setRst (s.rst.drop (n + 1)) (divide n s))) ∧
      ∀ m ≤ n, runs m s = .next (setRst (s.rst.drop m) (divide m s)) := by
  have hret := divide_returns h hi le_rfl
  have hex : ∃ n, (divide n s).phase = .fix := ⟨_, hret⟩
  have hruns : ∀ m ≤ Nat.find hex, runs m s = .next (setRst (s.rst.drop m) (divide m s)) := fun m hm =>
    runs_dividing hi hr fun j hj => Nat.find_min hex (lt_of_lt_of_le hj hm)
  refine ⟨Nat.find hex, Nat.find_min' hex hret, Nat.find_spec hex, ?_, hruns⟩
  have hstep := step_fix (s := setRst (s.rst.drop (Nat.find hex)) (divide (Nat.find hex) s)) (Nat.find_spec hex)
    (hr.resetApplied_drop_eq_false _ _)
  rw [runs_succ_of_runs (hruns _ le_rfl), hstep, tick_setRst, List.tail_drop]

/-! ### The two operations -/

/-- The error field of a response (R46). -/
@[simp] theorem response_err (e : ErrCode) (d : Cw24) : (e ++ d : Response).extractLsb' 24 2 = e :=
  BitVec.extractLsb'_append_eq_left

/-- The data field of a response (R46). -/
@[simp] theorem response_data (e : ErrCode) (d : Cw24) : (e ++ d : Response).extractLsb' 0 24 = d :=
  BitVec.extractLsb'_append_eq_right

/-- `ENC` completes with its response (R46, R54, R55). -/
theorem execEnc_completes (rsvd : BitVec 12) (v : DataPort) (s : State) : ∃ e d,
    execEnc rsvd v s = .next (complete e d s) ∧ responseOf s.mem (.enc rsvd v) = e ++ d := by
  cases ho : outOfRange (encArg rsvd v) with
  | true => exact ⟨errOutOfRange, 0, by simp [execEnc, ho], by simp only [responseOf, ho, cond_true]⟩
  | false =>
    exact ⟨errNone, encodedWord s.mem (dataByte (encArg rsvd v)), by simp [execEnc, ho, encodedWord],
      by simp only [responseOf, ho, cond_false]⟩

/-- A reassembled code integer has 19 bits (R80). -/
theorem reassemble_lt (b0 b1 b2 : Byte) : (reassemble b0 b1 b2).toNat < 2 ^ 19 := by
  refine Nat.lt_pow_two_of_testBit _ fun j hj => ?_
  have h₁ : ¬ j < 3 := by omega
  have h₂ : ¬ j < 11 := by omega
  rw [BitVec.testBit_toNat, reassemble_getLsbD, if_neg h₁, if_neg h₂]
  exact BitVec.getLsbD_of_ge _ _ (by omega)

/-- A `DEC` that has started meets the divider's invariant (R79, R80). -/
theorem dividerInv_start {c : CodeInt} (hc : c.toNat < 2 ^ 19) (s : State) :
    DividerInv (startDivider (pattern c) { s with code := c }) :=
  (dividerInv_synT rfl).mpr ⟨rfl, rfl, hc⟩

/-- And it has 33 micro-steps of the divider before it at most (R74). -/
theorem divisionStepsLeft_start {c : CodeInt} (hc : c.toNat < 2 ^ 19) (s : State) :
    divisionStepsLeft (startDivider (pattern c) { s with code := c }) ≤ 33 := by
  have hpat : (pattern c).toNat.size ≤ 19 := Nat.size_le.mpr (by simp [pattern]; omega)
  have haux : x18.toNat.size = 19 := Nat.size_pow (n := 18)
  rw [divisionStepsLeft_synT rfl, divisionWork, startDivider_pat, startDivider_aux]
  omega

/-- What `FIX` delivers where the divider has returned the remainder (R78). -/
theorem fixStep_res_of_remainder {s : State} (h : s.pat = pmod (pattern s.code)) :
    (fixStep s).res = decodedValue s.mem s.code := by
  rw [fixStep_res, h, decodedValue]

/-- A busy block that meets the invariant completes its `DEC`: it is busy and emits nothing up to the last step, which delivers
the decoded value of `CODE` (R46, R78). -/
theorem busy_completes {s : State} (h : DividerInv s) (hi : s.phase ≠ .idle) (hr : s.NoReset) :
    ∃ n u, 0 < n ∧ n ≤ divisionStepsLeft s + 1 ∧ runs n s = .next u ∧ u.phase = .idle ∧ u.reqs = s.reqs ∧
      u.mem = s.mem ∧ u.err = errNone ∧ u.res = decodedValue s.mem s.code ∧
      u.rsps = s.rsps ++ [errNone ++ decodedValue s.mem s.code] ∧
      ∀ m w, m < n → runs m s = .next w → w.rsps = s.rsps ∧ w.phase ≠ .idle := by
  obtain ⟨n, hn, hfix, hlast, hbefore⟩ := runs_busy h hi hr
  obtain ⟨hrem, -, -⟩ := (dividerInv_fix hfix).mp (divide_keeps_inv h n)
  have hres := fixStep_res_of_remainder (s := setRst (s.rst.drop (n + 1)) (divide n s)) hrem
  rw [setRst_mem, setRst_code, divide_mem, divide_code] at hres
  refine ⟨n + 1, _, by omega, by omega, hlast, fixStep_phase _, ?_, ?_, fixStep_err _, hres, ?_, fun m w hm hw => ?_⟩
  · simp
  · simp
  · rw [fixStep_rsps, ← fixStep_res, hres, setRst_rsps, divide_rsps]
  · rw [hbefore m (by omega)] at hw
    injection hw with hw
    subst hw
    exact ⟨by simp, divide_phase_ne_idle hi m⟩

/-- Settles O53: `ENC` completes in the step that accepts it; `DEC` starts there, and completes as every busy block does. -/
theorem eachRequestGetsExactlyOneResponse : Obligations.EachRequestGetsExactlyOneResponse := by
  intro s r later hp hr hq
  have hstep := step_idle hp hr.resetApplied_eq_false hq
  have hzero : ∀ w, runs 0 s = .next w → w.rsps = s.rsps := by
    intro w hw; injection hw with hw; rw [hw]
  cases hd : decodeRequest r with
  | enc rsvd v =>
    obtain ⟨e, d, hexec, hrsp⟩ := execEnc_completes rsvd v { s with reqs := later, rst := s.rst.tail }
    rw [hd] at hstep
    change responseOf s.mem _ = _ at hrsp
    rw [hrsp, response_err, response_data]
    refine ⟨1, _, Nat.one_pos, runs_succ_of_step (hstep.trans hexec) 0, rfl, rfl, rfl, rfl, rfl, fun m w hm hw => ?_⟩
    obtain rfl : m = 0 := by omega
    exact hzero w hw
  | dec b0 b1 b2 =>
    rw [hd] at hstep
    have hinv := dividerInv_start (reassemble_lt b0 b1 b2) { s with reqs := later, rst := s.rst.tail }
    have hr' : (startDivider (pattern (reassemble b0 b1 b2))
        { s with code := reassemble b0 b1 b2, reqs := later, rst := s.rst.tail }).NoReset :=
      fun b hb => hr b (List.mem_of_mem_tail hb)
    obtain ⟨n, u, -, -, hrun, hidle, hreqs, -, herr, hres, hrsps, hbefore⟩ := busy_completes hinv nofun hr'
    have hrsp : responseOf s.mem (.dec b0 b1 b2) = errNone ++ decodedValue s.mem (reassemble b0 b1 b2) := by
      simp only [responseOf]
    rw [hrsp, response_err, response_data]
    refine ⟨n + 1, u, n.succ_pos, (runs_succ_of_step hstep n).trans hrun, hidle, hreqs, hrsps, herr, hres,
      fun m w hm hw => ?_⟩
    cases m with
    | zero => exact hzero w hw
    | succ m =>
      rw [runs_succ_of_step hstep] at hw
      obtain ⟨hsilent, -⟩ := hbefore m w (by omega) hw
      exact hsilent

end Sys2Proof.Machine
end

section
/-! `ENC` (`40_encoder.md` rules R54, R55, R59): its one step, in range and out of range. -/

namespace Sys2Proof.Machine

/-! ### The two cases of the step -/

/-- The range check on the argument's upper field (R54). -/
theorem outOfRange_iff_upper_ne_zero (arg : Cw24) : outOfRange arg = true ↔ arg.extractLsb' 8 16 ≠ 0 := bne_iff_ne

/-- `ENC` out of range takes the fault (R54, R110). -/
theorem exec_enc_of_outOfRange {rsvd : BitVec 12} {v : DataPort} (h : outOfRange (encArg rsvd v) = true) (s : State) :
    exec (.enc rsvd v) s = .next (complete errOutOfRange 0 s) := by
  simp [exec, execEnc, h]

/-- `ENC` in range responds with its codeword (R54). -/
theorem exec_enc_of_inRange {rsvd : BitVec 12} {v : DataPort} (h : outOfRange (encArg rsvd v) = false) (s : State) :
    exec (.enc rsvd v) s = .next (complete errNone (encodedWord s.mem (dataByte (encArg rsvd v))) s) := by
  simp [exec, execEnc, h, encodedWord]

/-- The data byte of the argument is the low byte of the data value (R44, R50 (a)). -/
theorem dataByte_encArg (rsvd : BitVec 12) (v : DataPort) : dataByte (encArg rsvd v) = v.extractLsb' 0 8 := by
  refine BitVec.eq_of_getLsbD_eq fun j hj => ?_
  have h₁ : j < 12 := by omega
  simp [dataByte, encArg_getLsbD, h₁]

/-- Settles O6: the range check decides between the two cases; the rule's example is the second case, with the two ROM words
that rule R95 states. -/
theorem encFollowsItsPseudocode : Obligations.EncFollowsItsPseudocode := by
  refine ⟨fun s rsvd v _ => ⟨fun hne => ?_, fun heq => ?_⟩, fun s _ h0 h1 => ⟨?_, ?_, ?_, ?_⟩⟩
  · exact exec_enc_of_outOfRange ((outOfRange_iff_upper_ne_zero _).mpr hne) s
  · have hin : outOfRange (encArg rsvd v) = false :=
      Bool.eq_false_iff.mpr fun h => (outOfRange_iff_upper_ne_zero _).mp h heq
    rw [exec_enc_of_inRange hin, dataByte_encArg]
    rfl
  · have hword : encodedWord s.mem (dataByte (encArg 0x000 0x000)) = 0x000000 := by
      rw [show dataByte (encArg 0x000 0x000) = 0 by decide, encodedWord, h0]; decide
    rw [exec_enc_of_inRange (by decide), hword]
    rfl
  · have hword : encodedWord s.mem (dataByte (encArg 0x000 0x001)) = 0x018EB0 := by
      rw [show dataByte (encArg 0x000 0x001) = 1 by decide, encodedWord, h1]; decide
    rw [exec_enc_of_inRange (by decide), hword]
    rfl
  · exact ⟨_, exec_enc_of_inRange (by decide) s, complete_err _ _ _⟩
  · exact ⟨_, exec_enc_of_outOfRange (by decide) s, complete_err _ _ _⟩

/-- Settles O7: the range check is the comparison with `0xFF`, and the faulting case mentions no ROM. -/
theorem encFaultsExactlyAboveFF : Obligations.EncFaultsExactlyAboveFF := by
  intro s rsvd v _
  have hrange : outOfRange (encArg rsvd v) = true ↔ 0xFF < (rsvd ++ v : Cw24).toNat := outOfRange_iff _
  cases ho : outOfRange (encArg rsvd v) with
  | true =>
    have hgt := hrange.mp ho
    exact ⟨_, exec_enc_of_outOfRange ho s, iff_of_true (complete_err _ _ _) hgt,
      fun _ => ⟨complete_res _ _ _, fun m => exec_enc_of_outOfRange ho { s with mem := m }⟩⟩
  | false =>
    have hle : ¬0xFF < (rsvd ++ v : Cw24).toNat := fun h => by simp [hrange.mpr h] at ho
    have herr : errNone ≠ errOutOfRange := by decide
    exact ⟨_, exec_enc_of_inRange ho s, iff_of_false herr hle, fun hgt => absurd hgt hle⟩

/-! ### Purity -/

/-- A codeword depends on the words of the encode ROM only (R59). -/
theorem encodedWord_congr {m m' : Memory} (h : ∀ a, m.readEnc a = m'.readEnc a) (v : Byte) :
    encodedWord m v = encodedWord m' v := by
  simp only [encodedWord, h v]

/-- Completing in an idle block writes `RES`, `ERR` and the response record only. -/
theorem complete_of_idle {s : State} (hp : s.phase = .idle) (e : ErrCode) (d : Cw24) :
    complete e d s = { s with res := d, err := e, rsps := s.rsps ++ [e ++ d] } := by
  rw [complete, ← hp]

/-- Settles O10: out of range the response is fixed, and in range the codeword depends on the encode ROM's words only. -/
theorem encIsPure : Obligations.EncIsPure := by
  intro s s' rsvd v hp _ hrom
  cases ho : outOfRange (encArg rsvd v) with
  | true =>
    exact ⟨_, _, exec_enc_of_outOfRange ho s, exec_enc_of_outOfRange ho s', rfl, rfl, complete_of_idle hp _ _⟩
  | false =>
    exact ⟨_, _, exec_enc_of_inRange ho s, exec_enc_of_inRange ho s', encodedWord_congr hrom _, rfl,
      complete_of_idle hp _ _⟩

end Sys2Proof.Machine
end

section
/-! The codewords of the encoder (`40_encoder.md` rule R60): the divider returns the remainder, the reassembled codeword is the data
byte over the parity field, and every encode ROM that meets rules R95 and R96, as every instance's does, gives remainder zero. -/

namespace Sys2Proof.Machine

/-! ### The divider as a function -/

/-- The state with another code integer. -/
def setCode (c : CodeInt) (s : State) : State := { s with code := c }

@[simp] theorem setCode_phase (c : CodeInt) (s : State) : (setCode c s).phase = s.phase := rfl
@[simp] theorem setCode_code (c : CodeInt) (s : State) : (setCode c s).code = c := rfl
@[simp] theorem setCode_pat (c : CodeInt) (s : State) : (setCode c s).pat = s.pat := rfl
@[simp] theorem setCode_aux (c : CodeInt) (s : State) : (setCode c s).aux = s.aux := rfl
@[simp] theorem startDivider_setCode (p : Word32) (c : CodeInt) (s : State) :
    startDivider p (setCode c s) = setCode c (startDivider p s) := rfl

/-- No divider step reads `CODE`. -/
theorem dividerStep_setCode (c : CodeInt) (s : State) : dividerStep (setCode c s) = setCode c (dividerStep s) := by
  cases hp : s.phase <;> simp only [dividerStep, setCode_phase, hp]
  case synA =>
    simp only [alignStep, setCode_aux, setCode_pat]
    cases overlaps s.aux s.pat <;> rfl
  all_goals rfl

/-- Nor does a run of the divider. -/
theorem divide_setCode (c : CodeInt) (n : Nat) (s : State) : divide n (setCode c s) = setCode c (divide n s) := by
  induction n generalizing s with
  | zero => rfl
  | succ n ih => rw [divide, dividerStep_setCode, ih, divide]

/-- The divider returns the remainder of every code integer, by its invariant (R70). -/
theorem synd_pattern {c : CodeInt} (hc : c.toNat < 2 ^ 19) : synd 33 (pattern c) = some (pmod (pattern c)) := by
  have hinv : DividerInv (startDivider (pattern c) (setCode c State.reset)) := dividerInv_start hc State.reset
  have hfix := divide_returns hinv nofun (divisionStepsLeft_start hc State.reset)
  obtain ⟨hrem, -, -⟩ := (dividerInv_fix hfix).mp (divide_keeps_inv hinv 33)
  rw [startDivider_setCode, divide_setCode] at hfix hrem
  simp only [setCode_phase, setCode_pat, setCode_code] at hfix hrem
  rw [synd, if_pos hfix, hrem]

/-! ### The reassembled codeword -/

/-- The bits of a parity field (R48). -/
theorem parityField_getLsbD (cs : Checksum) (j : Nat) :
    (parityField cs).getLsbD j =
      if j < 3 then (checksumHigh cs).getLsbD (j + 5) else (checksumLow cs).getLsbD (j - 3) := by
  change BitVec.getLsbD (cs.extractLsb' 0 8 ++ cs.extractLsb' 13 3 : BitVec (8 + 3)) j = _
  simp only [checksumHigh, checksumLow, BitVec.getLsbD_append, BitVec.getLsbD_extractLsb']
  split
  · next h =>
    have h₁ : j + 5 < 8 := by omega
    have h₂ : 13 + j = 8 + (j + 5) := by omega
    simp [h, h₁, h₂]
  · rfl

/-- The code integer of a codeword is the data byte over the parity field (R60). -/
theorem codeInteger_eq_append (v : Byte) (cs : Checksum) :
    codeInteger v cs = (v ++ parityField cs : BitVec (8 + 11)).setWidth 20 := by
  refine BitVec.eq_of_getLsbD_eq fun j hj => ?_
  simp only [codeInteger, reassemble_getLsbD, BitVec.getLsbD_setWidth, BitVec.getLsbD_append, parityField_getLsbD, hj,
    decide_true, Bool.true_and]
  split
  · next h => rw [if_pos (by omega)]
  · rfl

/-- As the two fields do not overlap, the pattern is their sum over GF(2). -/
theorem pattern_codeInteger (v : Byte) (cs : Checksum) :
    pattern (codeInteger v cs) = (v.setWidth 32 <<< 11) ^^^ (parityField cs).setWidth 32 := by
  have hfields : (v ++ parityField cs : BitVec (8 + 11)) = (v ++ 0#11) ^^^ (0#8 ++ parityField cs) := by
    rw [BitVec.xor_append, BitVec.xor_zero, BitVec.zero_xor]
  rw [codeInteger_eq_append, pattern, BitVec.setWidth_setWidth (by omega), hfields, BitVec.setWidth_xor,
    BitVec.setWidth_append_eq_shiftLeft_setWidth_or, BitVec.setWidth_append_eq_shiftLeft_setWidth_or]
  simp

/-- A value plus an 11-bit one has remainder zero exactly when the 11-bit one is its remainder (R10). -/
theorem pmod_xor_eq_zero_iff {p r : Word32} (hr : r.toNat < 2 ^ 11) : pmod (p ^^^ r) = 0 ↔ r = pmod p := by
  rw [pmod_xor, pmod_of_lt hr, eq_comm (a := r)]
  exact BitVec.xor_eq_zero_iff

/-- A codeword has syndrome zero exactly when its parity field is the remainder of its data byte at bits 18:11 (R60, R96). -/
theorem synd_codeInteger_eq_zero_iff (v : Byte) (cs : Checksum) :
    synd 33 (pattern (codeInteger v cs)) = some 0 ↔
      (parityField cs).setWidth 32 = pmod (v.setWidth 32 <<< 11) := by
  have hlt : (codeInteger v cs).toNat < 2 ^ 19 := reassemble_lt _ _ _
  have hpar : ((parityField cs).setWidth 32).toNat < 2 ^ 11 := by rw [BitVec.toNat_setWidth]; omega
  rw [synd_pattern hlt, Option.some_inj, pattern_codeInteger, pmod_xor_eq_zero_iff hpar]

/-! ### The encode ROM of an instance -/

/-- The constraint on the encode ROM's words, at each address (R96). -/
theorem parityField_of_encSyndromeOk {c : Config} (h : c.encSyndromeOk = true) (hlen : c.encRom.length = encDepth)
    (v : Byte) : (parityField (c.encRom.getD v.toNat 0)).setWidth 32 = pmod (v.setWidth 32 <<< 11) := by
  have hv : v.toNat < c.encRom.length := hlen ▸ v.isLt
  have hword := List.all_eq_true.mp h (c.encRom[v.toNat], v.toNat) (List.mem_zipIdx_iff_getElem?.mpr (by simp [hv]))
  rw [List.getD_eq_getElem _ _ hv, ← BitVec.ofNat_toNat 32 v]
  exact beq_iff_eq.mp hword

/-- A configuration that meets rules R95 and R96 gives a memory that meets them. -/
theorem encValid_ofConfig {c : Config} (hlen : c.encRom.length = encDepth) (hstated : c.encStatedOk = true)
    (hsyn : c.encSyndromeOk = true) : (Memory.ofConfig c).EncValid := by
  obtain ⟨h0, h1⟩ : c.encRom[0]? = some 0x0000 ∧ c.encRom[1]? = some 0xB08E := by
    simpa [Config.encStatedOk] using hstated
  refine ⟨?_, ?_, fun v => ?_⟩ <;> rw [readEnc_ofConfig c hlen]
  · exact congrArg (Option.getD · 0) h0
  · exact congrArg (Option.getD · 0) h1
  · exact parityField_of_encSyndromeOk hsyn hlen v

/-- The encode ROM of every instance meets its constraints (R94). -/
theorem encValid_of_instantiate {c : Config} {s : State} (h : instantiate c = .next s) : s.mem.EncValid := by
  obtain ⟨hlen, -, hok, rfl⟩ := instantiate_cases h
  simp only [Config.contentsOk, Bool.and_eq_true] at hok
  obtain ⟨⟨⟨hstated, hsyn⟩, -⟩, -⟩ := hok
  exact encValid_ofConfig hlen hstated hsyn

/-- Settles O34: the divider returns the remainder, which is linear, so it is zero exactly where the parity field is the
remainder of the data byte's field, as rule R96 asks of every word. -/
theorem codewordsHaveSyndromeZero : Obligations.CodewordsHaveSyndromeZero := by
  have hrom : ∀ m : Memory, m.EncValid → ∀ v, synd 33 (pattern (codeInteger v (m.readEnc v))) = some 0 := by
    rintro m ⟨-, -, hpar⟩ v
    exact (synd_codeInteger_eq_zero_iff v _).mpr (hpar v)
  refine ⟨fun v cs => ⟨?_, synd_codeInteger_eq_zero_iff v cs⟩, hrom,
    fun c s h => hrom s.mem (encValid_of_instantiate h)⟩
  rw [codeInteger_eq_append, BitVec.setWidth_append_eq_shiftLeft_setWidth_or]

end Sys2Proof.Machine
end

section
/-! The divider's micro-steps one by one (`41_syndrome.md` rules R62 to R67): the exact next state of each, and the cancellation
operand bit by bit. -/

namespace Sys2Proof.Machine

/-! ### The step of each phase -/

/-- In `SYN_T`, a step is the threshold test (R16). -/
theorem step_synT {s : State} (hp : s.phase = .synT) (hr : resetApplied s = false) :
    step s = .next (thresholdTest (tick s)) := by
  simp [step_eq_phaseStep hr, phaseStep, hp]

/-- In `SYN_W`, a step is the loop test (R16). -/
theorem step_synW {s : State} (hp : s.phase = .synW) (hr : resetApplied s = false) :
    step s = .next (loopTest (tick s)) := by
  simp [step_eq_phaseStep hr, phaseStep, hp]

/-- In `SYN_A`, a step is the alignment step (R16). -/
theorem step_synA {s : State} (hp : s.phase = .synA) (hr : resetApplied s = false) :
    step s = .next (alignStep (tick s)) := by
  simp [step_eq_phaseStep hr, phaseStep, hp]

/-- In `SYN_X`, a step is the cancellation (R16). -/
theorem step_synX {s : State} (hp : s.phase = .synX) (hr : resetApplied s = false) :
    step s = .next (cancelStep (tick s)) := by
  simp [step_eq_phaseStep hr, phaseStep, hp]

/-! ### `AUX` -/

/-- All that a divider step can do to `AUX`; only `SYN_A` shifts it (R62, R65). -/
theorem dividerStep_aux_cases (s : State) :
    (dividerStep s).aux = s.aux ∨ (dividerStep s).aux = s.aux >>> 1 := by
  unfold dividerStep
  cases s.phase with
  | synA => simp only [alignStep_aux]; cases overlaps s.aux s.pat <;> simp
  | idle | synT | synW | synX | fix => exact .inl rfl

/-- Settles O21: of a busy block's steps, the last keeps `AUX` and the others are the divider's. -/
theorem dividerStartsAtX18 : Obligations.DividerStartsAtX18 := by
  refine ⟨fun p s => rfl, fun s b0 b1 b2 => rfl, fun s t hi hr h => ?_⟩
  by_cases hf : s.phase = .fix
  · rw [step_fix hf hr] at h
    injection h with h
    exact .inl (h ▸ rfl)
  · rw [step_dividing hi hf hr] at h
    injection h with h
    exact h ▸ dividerStep_aux_cases (tick s)

/-! ### The two tests -/

/-- Settles O22: the step of `SYN_T` is the model's `thresholdTest`, a comparison with `X11`. -/
theorem thresholdTestStep : Obligations.ThresholdTest := by
  intro s hp hr
  rw [step_synT hp hr, thresholdTest, belowThreshold, Bool.cond_decide]
  rfl

/-- The loop test, on bits (R64). -/
theorem inMaskRegion_iff_exists_bit (p : Word32) :
    inMaskRegion p = true ↔ ∃ j, 11 ≤ j ∧ p.getLsbD j = true := by
  rw [inMaskRegion_iff]
  constructor
  · intro h
    obtain ⟨j, hj, -, hbit, -⟩ := exists_top_bit h p.isLt
    exact ⟨j, hj, hbit⟩
  · rintro ⟨j, hj, hbit⟩
    exact (Nat.pow_le_pow_right (by omega) hj).trans (Nat.ge_two_pow_of_testBit hbit)

/-- Settles O23: the step of `SYN_W` is the model's `loopTest`, which is met exactly from `2^11` on. -/
theorem loopTestStep : Obligations.LoopTest := by
  intro s hp hr
  have hmask : s.pat &&& 0xFFFFF800 ≠ 0 ↔ inMaskRegion s.pat = true := bne_iff_ne.symm
  refine ⟨?_, hmask.trans (inMaskRegion_iff_exists_bit s.pat)⟩
  simp only [hmask]
  rw [step_synW hp hr, loopTest, Bool.cond_eq_ite]
  rfl

/-! ### Alignment -/

/-- Settles O24: the step of `SYN_A` is the alignment step, by the two outcomes of its test. -/
theorem alignmentStep : Obligations.AlignmentStep := by
  intro s hp hr
  rw [step_synA hp hr, alignStep]
  refine ⟨fun hmiss => ?_, fun hmeet => ?_⟩
  · have ho : overlaps (tick s).aux (tick s).pat = false := bne_eq_false_iff_eq.mpr hmiss
    rw [ho]; rfl
  · have ho : overlaps (tick s).aux (tick s).pat = true := bne_iff_ne.mpr hmeet
    rw [ho]; rfl

/-! ### Cancellation -/

/-- The cancellation with `AUX = 2^k`, on bits (R66): each is changed by the bit of `GENPOL` that is shifted to it. -/
theorem xor_cancelOperand_getLsbD (pat : Word32) {k : Nat} (hge : 11 ≤ k) (hlt : k < 32) (j : Nat) :
    (pat ^^^ cancelOperand (BitVec.twoPow 32 k)).getLsbD j =
      (pat.getLsbD j ^^ (genpol <<< (k - 11)).getLsbD j) := by
  rw [cancelOperand_twoPow k hlt hge, BitVec.getLsbD_xor]

/-- The shifted generator has no bit above its top. -/
theorem genpol_shift_getLsbD_of_gt {k j : Nat} (hge : 11 ≤ k) (hlt : k < 32) (hj : k < j) :
    (genpol <<< (k - 11)).getLsbD j = false := by
  obtain ⟨-, hbound⟩ := genpol_shift_top k hlt hge
  exact Nat.testBit_lt_two_pow (hbound.trans_le (Nat.pow_le_pow_right (by omega) hj))

/-- Settles O25: the operand is the shifted generator, whose bits are known above, at and below its twelve places. -/
theorem cancellationStep : Obligations.CancellationStep := by
  refine ⟨fun s hp hr => step_synX hp hr, fun pat k hge hlt => ?_⟩
  have hop := cancelOperand_twoPow k hlt hge
  have hbit := xor_cancelOperand_getLsbD pat hge hlt
  obtain ⟨htop, -⟩ := genpol_shift_top k hlt hge
  refine ⟨hop, hop ▸ htop, fun hset => ?_, fun j hj => ?_, fun j hj => ?_, fun j hj => ?_⟩
  · rw [hbit, hset, htop]; rfl
  · rw [hbit, genpol_shift_getLsbD_of_gt hge hlt hj, Bool.xor_false]
  · have hplace : k - 11 + j < 32 := by omega
    rw [hbit, BitVec.getLsbD_shiftLeft]
    simp [hplace]
  · rw [hbit, BitVec.getLsbD_shiftLeft]
    simp [hj]

/-! ### The cancellation operand -/

/-- The shift of the product is the floor division by `2^11` (R67). -/
theorem toNat_ushiftRight_eleven (aux : Word32) : (aux >>> 11).toNat = aux.toNat / 2 ^ 11 := by
  rw [BitVec.toNat_ushiftRight, Nat.shiftRight_eq_div_pow]

/-- Below `2^11` the operand is zero (R67). -/
theorem cancelOperand_of_lt {aux : Word32} (h : aux.toNat < 2 ^ 11) : cancelOperand aux = 0 := by
  have hzero : aux >>> 11 = 0 :=
    BitVec.eq_of_toNat_eq ((toNat_ushiftRight_eleven aux).trans (Nat.div_eq_of_lt h))
  rw [cancelOperand, hzero]
  exact BitVec.zero_mul

/-- Where `2^11` divides `AUX`, the division of the product is exact (R67). -/
theorem ushiftRight_mul_x11_of_dvd {aux : Word32} (h : 2 ^ 11 ∣ aux.toNat) : (aux >>> 11) * x11 = aux := by
  have hx11 : x11.toNat = 2 ^ 11 := rfl
  apply BitVec.eq_of_toNat_eq
  rw [BitVec.toNat_mul, toNat_ushiftRight_eleven, hx11, Nat.div_mul_cancel h, Nat.mod_eq_of_lt aux.isLt]

/-- In an aligned state `2^11` divides `AUX` (R69). -/
theorem AlignedAt.dvd_aux {k : Nat} {s : State} (h : AlignedAt k s) : 2 ^ 11 ∣ s.aux.toNat := by
  obtain ⟨hge, hle, haux, -⟩ := h
  rw [haux, BitVec.toNat_twoPow_of_lt (by omega)]
  exact Nat.pow_dvd_pow 2 hge

/-- Settles O26: the operand of a power of two by whether `2^11` divides it; the invariant keeps `AUX` at those it divides. -/
theorem cancelOperandIsAShiftedGenerator : Obligations.CancelOperandIsAShiftedGenerator := by
  refine ⟨fun aux => ⟨rfl, toNat_ushiftRight_eleven aux⟩, fun k hge hlt => cancelOperand_twoPow k hlt hge,
    fun k hk => cancelOperand_of_lt ?_, cancelOperand_of_lt (by decide), ?_⟩
  · rw [BitVec.toNat_twoPow_of_lt (by omega)]
    exact Nat.pow_lt_pow_right (by omega) hk
  · rintro s ⟨-, -, hinv⟩ hp
    obtain ⟨k, hal, -⟩ := (dividerInv_synX hp).mp hinv
    exact ushiftRight_mul_x11_of_dvd hal.dvd_aux

end Sys2Proof.Machine
end

section
/-! `DEC` (`42_decoder.md` rules R79, R80, R82, R84): its first step and its last, and the code integer it reassembles. -/

namespace Sys2Proof.Machine

/-! ### The steps -/

@[simp] theorem dividerStep_res (s : State) : (dividerStep s).res = s.res := by rw [dividerStep_frame]
@[simp] theorem dividerStep_err (s : State) : (dividerStep s).err = s.err := by rw [dividerStep_frame]

/-- Settles O12: the first step is the start of the divider, whose steps touch neither `RES` nor `ERR`. -/
theorem decFirstStep : Obligations.DecFirstStep := by
  refine ⟨fun s b0 b1 b2 _ => rfl, fun s t hi hf hr h => ?_⟩
  rw [step_dividing hi hf hr] at h
  injection h with h
  subst h
  exact ⟨dividerStep_res _, dividerStep_err _⟩

/-- Settles O18: the step of `FIX` is the model's `fixStep`. -/
theorem fixLooksUpCorrectsAndResponds : Obligations.FixLooksUpCorrectsAndResponds :=
  fun _ hp hr => step_fix hp hr

/-- A zero pattern corrects nothing (R84). -/
@[simp] theorem correct_zero (code : CodeInt) : correct code 0 = code := by rw [correct_eq_xor]; exact BitVec.xor_zero

/-- Settles O19: the correction is the XOR, which a zero pattern makes the identity, in the step that also extracts. -/
theorem zeroPatternLeavesTheCodeword : Obligations.ZeroPatternLeavesTheCodeword := by
  refine ⟨fun code ep => ⟨rfl, correct_eq_xor code ep⟩, fun s hp hr => ?_⟩
  refine ⟨_, step_fix hp hr, fixStep_code _, fixStep_reqs _, fun hzero => ?_⟩
  have hcode : correct s.code (s.mem.readDec (syndromeAddress s.pat)) = s.code :=
    (congrArg (correct s.code) hzero).trans (correct_zero _)
  exact ⟨hcode, congrArg extractValue hcode⟩

/-! ### The reassembly -/

/-- The 19 bits of a reassembled code integer are the argument's bits 23:5 (R80). -/
theorem reassemble_extractLsb_eq_arg (b0 b1 b2 : Byte) :
    (reassemble b0 b1 b2).extractLsb' 0 19 = (packCodeword b0 b1 b2).extractLsb' 5 19 := by
  refine BitVec.eq_of_getLsbD_eq fun j hj => ?_
  have h₁ : j + 5 < 8 ↔ j < 3 := by omega
  have h₂ : j + 5 < 16 ↔ j < 11 := by omega
  have h₃ : j + 5 - 8 = j - 3 := by omega
  have h₄ : j + 5 - 16 = j - 11 := by omega
  simp only [BitVec.getLsbD_extractLsb', reassemble_getLsbD, packCodeword_getLsbD, Nat.zero_add, Nat.add_comm 5 j,
    h₁, h₂, h₃, h₄]

/-- The first byte fills bits 18:11 (R80). -/
theorem reassemble_extractLsb_b0 (b0 b1 b2 : Byte) : (reassemble b0 b1 b2).extractLsb' 11 8 = b0 := by
  refine BitVec.eq_of_getLsbD_eq fun j hj => ?_
  have h₁ : ¬ 11 + j < 3 := by omega
  simp [reassemble_getLsbD, hj, h₁]

/-- The second byte fills bits 10:3 (R80). -/
theorem reassemble_extractLsb_b1 (b0 b1 b2 : Byte) : (reassemble b0 b1 b2).extractLsb' 3 8 = b1 := by
  refine BitVec.eq_of_getLsbD_eq fun j hj => ?_
  have h₁ : 3 + j < 11 := by omega
  simp [reassemble_getLsbD, hj, h₁]

/-- The top three bits of the third byte fill bits 2:0 (R80). -/
theorem reassemble_extractLsb_b2 (b0 b1 b2 : Byte) :
    (reassemble b0 b1 b2).extractLsb' 0 3 = b2.extractLsb' 5 3 := by
  refine BitVec.eq_of_getLsbD_eq fun j hj => ?_
  simp [reassemble_getLsbD, hj, Nat.add_comm 5 j]

/-- Settles O13: the shift of the third byte commutes with widening it; the rest is read off the bits. -/
theorem reassemblyTakesTheTopNineteenBits : Obligations.ReassemblyTakesTheTopNineteenBits := by
  intro b0 b1 b2
  have hlt := reassemble_lt b0 b1 b2
  refine ⟨?_, reassemble_extractLsb_eq_arg b0 b1 b2, reassemble_extractLsb_b0 b0 b1 b2, reassemble_extractLsb_b1 b0 b1 b2,
    reassemble_extractLsb_b2 b0 b1 b2, Nat.testBit_lt_two_pow hlt, hlt, by decide⟩
  rw [reassemble, BitVec.setWidth_ushiftRight (by omega)]

end Sys2Proof.Machine
end

section
/-! The whole of `DEC` (`42_decoder.md` rule R78): the divider's run from the first step ends in `FIX` with the remainder, and the
block answers with the decoded value. -/

namespace Sys2Proof.Machine

/-! ### The end of a run -/

/-- A busy block that meets the invariant completes, and its last state is that of `FIX` on the remainder of `CODE`; only `AUX`
is left open (R74, R78, R82). -/
theorem runs_busy_eq_fixStep {s : State} (h : DividerInv s) (hi : s.phase ≠ .idle) (hr : s.NoReset) :
    ∃ n ≤ divisionStepsLeft s + 1, ∃ a, runs n s = .next (fixStep
      { s with phase := .fix, pat := pmod (pattern s.code), aux := a, rst := s.rst.drop n }) := by
  obtain ⟨n, hn, hfix, hlast, -⟩ := runs_busy h hi hr
  obtain ⟨hrem, -, -⟩ := (dividerInv_fix hfix).mp (divide_keeps_inv h n)
  rw [divide_code] at hrem
  refine ⟨n + 1, by omega, (divide n s).aux, ?_⟩
  rw [hlast, divide_frame, hfix, hrem]
  rfl

/-- `DEC` completes within 34 steps after its first, and so ends (R78, R124). -/
theorem runs_startDivider {c : CodeInt} (hc : c.toNat < 2 ^ 19) {s : State} (hr : s.NoReset) :
    ∃ n ≤ 34, ∃ a, runs n (startDivider (pattern c) { s with code := c }) = .next (fixStep
      { s with phase := .fix, code := c, pat := pmod (pattern c), aux := a, rst := s.rst.drop n }) := by
  obtain ⟨n, hn, a, hrun⟩ := runs_busy_eq_fixStep (dividerInv_start hc s) nofun hr
  exact ⟨n, hn.trans (Nat.succ_le_succ (divisionStepsLeft_start hc s)), a, hrun⟩

/-! ### The response -/

/-- A `DEC` request decodes to its bytes (R44). -/
theorem decodeRequest_encode_dec (b0 b1 b2 : Byte) : decodeRequest (encode (.dec b0 b1 b2)) = .dec b0 b1 b2 := by
  have hop : (encode (.dec b0 b1 b2)).getLsbD 24 = true := encode_dec_getLsbD b0 b1 b2 24
  have h0 : (encode (.dec b0 b1 b2)).extractLsb' 16 8 = b0 := by
    refine BitVec.eq_of_getLsbD_eq fun j hj => ?_
    have h₁ : ¬ 16 + j < 8 := by omega
    have h₂ : 16 + j < 24 := by omega
    simp [encode_dec_getLsbD, hj, h₁, h₂]
  have h1 : (encode (.dec b0 b1 b2)).extractLsb' 8 8 = b1 := by
    refine BitVec.eq_of_getLsbD_eq fun j hj => ?_
    have h₁ : 8 + j < 16 := by omega
    simp [encode_dec_getLsbD, hj, h₁]
  have h2 : (encode (.dec b0 b1 b2)).extractLsb' 0 8 = b2 := by
    refine BitVec.eq_of_getLsbD_eq fun j hj => ?_
    simp [encode_dec_getLsbD, hj]
  rw [decodeRequest, if_pos hop, h0, h1, h2]

/-- Presented to a block in any state, `DEC` is answered by the decoded value of its code integer (R46, R78). -/
theorem answers_dec (b0 b1 b2 : Byte) (s : State) :
    Answers (.dec b0 b1 b2) s (errNone ++ decodedValue s.mem (reassemble b0 b1 b2)) := by
  have hstep := step_idle (s := presentNext (encode (.dec b0 b1 b2)) s) rfl rfl rfl
  rw [decodeRequest_encode_dec] at hstep
  obtain ⟨n, hn, a, hrun⟩ := runs_startDivider (reassemble_lt b0 b1 b2)
    (s := { s with phase := .idle, rst := [] }) nofun
  exact ⟨n + 1, _, by omega, (runs_succ_of_step hstep n).trans hrun, rfl, rfl, rfl, rfl, rfl⟩

/-- The lookup's address for an 11-bit syndrome is the syndrome, widened (R29, R83). -/
theorem syndromeAddress_of_lt {p : Word32} (h : p.toNat < 2 ^ 11) : syndromeAddress p = p.setWidth 12 := by
  apply BitVec.eq_of_toNat_eq
  simp only [syndromeAddress, BitVec.toNat_setWidth, BitVec.extractLsb'_toNat, Nat.shiftRight_zero]
  omega

/-- With remainder zero, and a decode ROM that corrects nothing there, the value is extracted as received (R78, R100). -/
theorem answers_dec_of_pmod_eq_zero {b0 b1 b2 : Byte} (hc : pmod (pattern (reassemble b0 b1 b2)) = 0) {s : State}
    (hm : s.mem.readDec 0 = 0) :
    Answers (.dec b0 b1 b2) s (errNone ++ extractValue (reassemble b0 b1 b2)) := by
  have haddr : syndromeAddress 0 = 0 := by decide
  have hvalue : decodedValue s.mem (reassemble b0 b1 b2) = extractValue (reassemble b0 b1 b2) := by
    rw [decodedValue, hc, haddr, hm, correct_zero]
  exact hvalue ▸ answers_dec b0 b1 b2 s

/-- Settles O16: the divider returns the remainder, which is both the value of `SYND` and the address of the lookup in `FIX`; the
rule's examples are two code integers with remainder zero. -/
theorem decCompletes : Obligations.DecCompletes := by
  refine ⟨fun s b0 b1 b2 _ hr => ?_, fun s _ hm =>
    ⟨answers_dec_of_pmod_eq_zero (by decide +kernel) hm, answers_dec_of_pmod_eq_zero (by decide +kernel) hm⟩⟩
  have hc := reassemble_lt b0 b1 b2
  have hsy := pmod_lt (pattern (reassemble b0 b1 b2))
  obtain ⟨n, -, a, hrun⟩ := runs_startDivider hc hr
  refine ⟨_, _, rfl, synd_pattern hc, hsy, n, _, hrun, rfl, rfl, ?_, rfl, rfl, rfl, rfl, rfl⟩
  rw [← syndromeAddress_of_lt hsy]
  exact ⟨rfl, rfl, rfl, rfl⟩

end Sys2Proof.Machine
end

section
/-! The two events (`60_exceptions.md` rules R106, R110): taking `OutOfRange` is a response of the block, and `TableIntegrity` is an
event of the configuration only, for every step has a next state. -/

namespace Sys2Proof.Machine

/-! ### `OutOfRange` -/

/-- Settles O8: out of range, `ENC` completes with the fault's response, and completing changes nothing else. -/
theorem outOfRangeFaultEntry : Obligations.OutOfRangeFaultEntry := by
  intro s rsvd v _ hgt
  have hout : outOfRange (encArg rsvd v) = true := (outOfRange_iff _).mpr hgt
  exact ⟨_, exec_enc_of_outOfRange hout s, complete_err _ _ _, complete_res _ _ _, complete_phase _ _ _,
    complete_rsps _ _ _, complete_code _ _ _, complete_pat _ _ _, complete_aux _ _ _, complete_mem _ _ _,
    complete_reqs _ _ _, complete_rst _ _ _, complete_free _ _ _⟩

/-! ### Every step has a next state -/

/-- The first step of either operation has a next state. -/
theorem exists_exec_eq_next (i : Instr) (s : State) : ∃ t, exec i s = .next t := by
  cases i with
  | enc rsvd v => obtain ⟨e, d, henc, -⟩ := execEnc_completes rsvd v s; exact ⟨_, henc⟩
  | dec b0 b1 b2 => exact ⟨_, rfl⟩

/-- Reset cuts in before anything else (R116). -/
theorem step_reset {s : State} (h : resetApplied s = true) : step s = .next (resetBlock (tick s)) := by
  simp [step, stepWith, h]

/-- An idle block with nothing presented waits (R45). -/
theorem step_waiting {s : State} (hp : s.phase = .idle) (hr : resetApplied s = false) (hq : s.reqs = []) :
    step s = .next (tick s) := by
  simp [step_eq_phaseStep hr, phaseStep, hp, acceptStep, fetchRequest, hq]

/-- Nothing stops a step: it neither faults nor is refused (R104). -/
theorem exists_step_eq_next (s : State) : ∃ t, step s = .next t := by
  cases hr : resetApplied s with
  | true => exact ⟨_, step_reset hr⟩
  | false =>
    by_cases hi : s.phase = .idle
    · cases hq : s.reqs with
      | nil => exact ⟨_, step_waiting hi hr hq⟩
      | cons r later => rw [step_idle hi hr hq]; exact exists_exec_eq_next _ _
    · by_cases hf : s.phase = .fix
      · exact ⟨_, step_fix hf hr⟩
      · exact ⟨_, step_dividing hi hf hr⟩

/-! ### `TableIntegrity` -/

/-- An encode ROM of the wrong length is refused first (R106). -/
theorem instantiate_of_encRom_length_ne {c : Config} (h : c.encRom.length ≠ encDepth) :
    instantiate c = .fault (.tableIntegrity .encRom c.encRom.length) := if_pos h

/-- Behind an encode ROM of the right length, a decode ROM of the wrong length is refused (R106). -/
theorem instantiate_of_decRom_length_ne {c : Config} (he : c.encRom.length = encDepth)
    (hd : c.decRom.length ≠ decDepth) : instantiate c = .fault (.tableIntegrity .decRom c.decRom.length) := by
  rw [instantiate, if_neg (not_not.mpr he), if_pos hd]

/-- With both lengths right, building an instance does not fault, whatever the contents (R94, R106). -/
theorem instantiate_ne_fault {c : Config} (he : c.encRom.length = encDepth) (hd : c.decRom.length = decDepth)
    (f : Fault) : instantiate c ≠ .fault f := by
  rw [instantiate, if_neg (not_not.mpr he), if_neg (not_not.mpr hd)]
  split <;> exact nofun

/-- The fault records a ROM of the wrong length, and that length (R104). -/
theorem instantiate_fault_cases {c : Config} {rom : Rom} {n : Nat}
    (h : instantiate c = .fault (.tableIntegrity rom n)) :
    (rom = .encRom ∧ n = c.encRom.length ∧ n ≠ encDepth) ∨ (rom = .decRom ∧ n = c.decRom.length ∧ n ≠ decDepth) := by
  by_cases he : c.encRom.length = encDepth
  · by_cases hd : c.decRom.length = decDepth
    · exact absurd h (instantiate_ne_fault he hd _)
    · rw [instantiate_of_decRom_length_ne he hd] at h; cases h; exact .inr ⟨rfl, rfl, hd⟩
  · rw [instantiate_of_encRom_length_ne he] at h; cases h; exact .inl ⟨rfl, rfl, he⟩

/-- Settles O43: the two lengths decide the fault, which records the one that is wrong; every step has a next state instead. -/
theorem wrongLengthIsTableIntegrity : Obligations.WrongLengthIsTableIntegrity := by
  refine ⟨fun c => ⟨?_, fun h => ?_⟩, fun c n h => ?_, fun c n h => ?_, fun s rom n h => ?_⟩
  · rintro ⟨rom, n, h⟩
    obtain ⟨-, rfl, hne⟩ | ⟨-, rfl, hne⟩ := instantiate_fault_cases h
    · exact .inl hne
    · exact .inr hne
  · by_cases he : c.encRom.length = encDepth
    · exact ⟨_, _, instantiate_of_decRom_length_ne he (h.resolve_left (not_not.mpr he))⟩
    · exact ⟨_, _, instantiate_of_encRom_length_ne he⟩
  · obtain ⟨-, hn, hne⟩ | ⟨hrom, -, -⟩ := instantiate_fault_cases h
    · exact ⟨hn.symm, hne⟩
    · cases hrom
  · obtain ⟨hrom, -, -⟩ | ⟨-, hn, hne⟩ := instantiate_fault_cases h
    · cases hrom
    · exact ⟨hn.symm, hne⟩
  · obtain ⟨t, ht⟩ := exists_step_eq_next s
    rw [ht] at h
    cases h

end Sys2Proof.Machine
end

section
/-! Reset and hangs (`70_reset_and_hazards.md` rule R116, `41_syndrome.md` rule R75): reset cuts in whatever the phase, and a divider
at work on a pattern of `2^19` or more stays at work on one. -/

namespace Sys2Proof.Machine

/-- With `AUX` at most its seed `X18`, the cancellation operand has no bit from position 19 on (R67). -/
theorem cancelOperand_lt {aux : Word32} (h : aux.toNat ≤ 2 ^ 18) : (cancelOperand aux).toNat < 2 ^ 19 := by
  have hgen : genpol.toNat = 0xC75 := rfl
  have hprod : aux.toNat / 2 ^ 11 * 0xC75 < 2 ^ 19 := by omega
  rw [cancelOperand, BitVec.toNat_mul, toNat_ushiftRight_eleven, hgen]
  exact (Nat.mod_le _ _).trans_lt hprod

/-- An XOR with a value below `2^n` leaves a pattern of `2^n` or more there. -/
theorem two_pow_le_xor {p c : Word32} {n : Nat} (hp : 2 ^ n ≤ p.toNat) (hc : c.toNat < 2 ^ n) :
    2 ^ n ≤ (p ^^^ c).toNat := by
  by_contra hlt
  have hback : ((p ^^^ c) ^^^ c).toNat < 2 ^ n := xor_lt_two_pow (not_le.mp hlt) hc
  rw [BitVec.xor_assoc, BitVec.xor_self, BitVec.xor_zero] at hback
  exact not_lt.mpr hp hback

/-- A divider step does not let `AUX` grow. -/
theorem dividerStep_aux_le (s : State) : (dividerStep s).aux.toNat ≤ s.aux.toNat := by
  obtain h | h := dividerStep_aux_cases s
  · rw [h]
  · rw [h, BitVec.toNat_ushiftRight]; exact Nat.shiftRight_le _ _

/-- All that a divider step can do to `PAT`: keep it, or cancel with the operand of `AUX` (R66). -/
theorem dividerStep_pat_cases (s : State) :
    (dividerStep s).pat = s.pat ∨ (dividerStep s).pat = s.pat ^^^ cancelOperand s.aux := by
  unfold dividerStep
  cases s.phase with
  | synX => exact .inr rfl
  | synA => exact .inl (alignStep_pat s)
  | idle | synT | synW | fix => exact .inl rfl

/-- The divider returns only with a pattern below `2^11`: on any other, neither of its tests leads to `FIX` (R63, R64). -/
theorem dividerStep_phase_ne_fix {s : State} (hf : s.phase ≠ .fix) (hp : 2 ^ 11 ≤ s.pat.toNat) :
    (dividerStep s).phase ≠ .fix := by
  have hbelow : belowThreshold s.pat = false := Bool.eq_false_iff.mpr fun h => not_lt.mpr hp ((belowThreshold_iff _).mp h)
  have hmask : inMaskRegion s.pat = true := (inMaskRegion_iff _).mpr hp
  unfold dividerStep
  cases h : s.phase with
  | fix => exact absurd h hf
  | synT => simp [hbelow]
  | synW => simp [hmask]
  | synA => simp only [alignStep_phase, h]; cases overlaps s.aux s.pat <;> simp
  | idle | synX => simp [h]

/-- A hung divider's step leaves it hung: no cancellation reaches the bits from position 19 on (R75). -/
theorem dividerStep_keeps_hung {s : State} (h : Hung s) : Hung (dividerStep s) := by
  obtain ⟨hpat, haux, hidle, hfix⟩ := h
  have hpat' : 2 ^ 19 ≤ (dividerStep s).pat.toNat := by
    obtain hkeep | hcancel := dividerStep_pat_cases s
    · rw [hkeep]; exact hpat
    · rw [hcancel]; exact two_pow_le_xor hpat (cancelOperand_lt haux)
  exact ⟨hpat', (dividerStep_aux_le s).trans haux, dividerStep_phase_ne_idle hidle,
    dividerStep_phase_ne_fix hfix (le_trans (by decide) hpat)⟩

/-- Settles O57: reset cuts in before the phase is looked at; without it, the step of a hung divider is the divider's. -/
theorem resetInAnyPhase : Obligations.ResetInAnyPhase := by
  refine ⟨fun s hr => ⟨_, step_reset hr, by simp [errNone]⟩, fun s t h hr hstep => ?_⟩
  have ⟨_, _, hidle, hfix⟩ := h
  rw [step_dividing hidle hfix hr] at hstep
  injection hstep with hstep
  subst hstep
  exact dividerStep_keeps_hung (s := tick s) h

end Sys2Proof.Machine
end

section
/-! The encoding both ways (`30_encoding.md` rules R44, R51, R52): decoder and encoder are inverse, for requests and for numbers,
so the instruction whose encoding is presented or placed is the one that the next step runs. -/

namespace Sys2Proof.Machine

/-- An `ENC` request decodes to its fields (R44). -/
theorem decodeRequest_encode_enc (rsvd : BitVec 12) (v : DataPort) :
    decodeRequest (encode (.enc rsvd v)) = .enc rsvd v := by
  have hop : (encode (.enc rsvd v)).getLsbD 24 = false := encode_enc_getLsbD rsvd v 24
  have hrsvd : (encode (.enc rsvd v)).extractLsb' 12 12 = rsvd := by
    refine BitVec.eq_of_getLsbD_eq fun j hj => ?_
    have h : 12 + j < 24 := by omega
    simp [encode_enc_getLsbD, hj, h]
  have hv : (encode (.enc rsvd v)).extractLsb' 0 12 = v := by
    refine BitVec.eq_of_getLsbD_eq fun j hj => ?_
    simp [encode_enc_getLsbD, hj]
  rw [decodeRequest, hop, hrsvd, hv]
  rfl

/-- Decoding undoes encoding (R44). -/
theorem decodeRequest_encode (i : Instr) : decodeRequest (encode i) = i := by
  cases i with
  | enc rsvd v => exact decodeRequest_encode_enc rsvd v
  | dec b0 b1 b2 => exact decodeRequest_encode_dec b0 b1 b2

/-- A number of 25 bits decodes as the request it is (R44, R52). -/
theorem decodeWord_of_lt {w : Nat} (h : w < 2 ^ 25) : decodeWord w = .ok (decodeRequest (BitVec.ofNat 25 w)) := by
  rw [decodeWord, requestOf, if_pos h]
  rfl

/-- A wider number is rejected by name (log 10). -/
theorem decodeWord_of_ge {w : Nat} (h : 2 ^ 25 ≤ w) : decodeWord w = .error .widerThanRequest := by
  rw [decodeWord, requestOf, if_neg (Nat.not_lt.mpr h)]
  rfl

/-- Read as a number, a request decodes to the same instruction. -/
theorem decodeWord_toNat (r : Request) : decodeWord r.toNat = .ok (decodeRequest r) := by
  rw [decodeWord_of_lt r.isLt, BitVec.ofNat_toNat, BitVec.setWidth_eq]

/-- Settles O1: on the request by the bits of either format; on the number because a request fits 25 of the table's 32 bits. -/
theorem decodeOfEncodeIsTheInstruction : Obligations.DecodeOfEncodeIsTheInstruction := by
  intro i _
  have hword : decodeWord (encode i).toNat = .ok i := by rw [decodeWord_toNat, decodeRequest_encode]
  have htable : tableWord 32 (encode i).toNat = (encode i).toNat :=
    Nat.mod_eq_of_lt ((encode i).isLt.trans (by decide))
  exact ⟨decodeRequest_encode i, hword, by rw [decodeTableWord, htable, hword]⟩

/-- The op field is the op bit (R44). -/
theorem opField_eq_ofBool (r : Request) : r.extractLsb' 24 1 = BitVec.ofBool (r.getLsbD 24) := by
  refine BitVec.eq_of_getLsbD_eq fun j hj => ?_
  obtain rfl : j = 0 := by omega
  simp

/-- The op field and the two fields of format E are all of a request (R44). -/
theorem fieldsE_append (r : Request) :
    (r.extractLsb' 24 1 ++ r.extractLsb' 12 12 ++ r.extractLsb' 0 12 : BitVec (1 + 12 + 12)) = r := by
  iterate 2 rw [BitVec.extractLsb'_append_extractLsb'_eq_extractLsb' (by rfl)]
  exact BitVec.extractLsb'_eq_self

/-- The op field and the three fields of format D are all of a request (R44). -/
theorem fieldsD_append (r : Request) :
    (r.extractLsb' 24 1 ++ r.extractLsb' 16 8 ++ r.extractLsb' 8 8 ++ r.extractLsb' 0 8 : BitVec (1 + 8 + 8 + 8)) =
      r := by
  iterate 3 rw [BitVec.extractLsb'_append_extractLsb'_eq_extractLsb' (by rfl)]
  exact BitVec.extractLsb'_eq_self

/-- Settles O2: the op bit selects the format, and the op bit with the fields of either format is all of a request. -/
theorem encodeOfDecodeIsTheRequest : Obligations.EncodeOfDecodeIsTheRequest := by
  intro r
  have hE := fieldsE_append r
  have hD := fieldsD_append r
  rw [opField_eq_ofBool] at hE hD
  cases hop : r.getLsbD 24 with
  | false => rw [hop] at hE; rw [decodeRequest, hop]; exact hE
  | true => rw [hop] at hD; rw [decodeRequest, hop]; exact hD

/-- Settles O4: each word's op bit and fields, read by the decoder. -/
theorem specWordsDecode : Obligations.SpecWordsDecode := by
  unfold Obligations.SpecWordsDecode
  decide

/-- Settles O5: the decoder's one bound is the width of a request. -/
theorem exactlyTheRequestsDecode : Obligations.ExactlyTheRequestsDecode :=
  fun _ => ⟨fun h => ⟨_, decodeWord_of_lt h⟩, decodeWord_of_ge⟩

/-- Settles O51: the presented request decodes to the instruction it encodes. -/
theorem stepRunsThePresentedInstruction : Obligations.StepRunsThePresentedInstruction := by
  intro s i later _ hp hr hq
  rw [step_idle hp hr hq, decodeRequest_encode]

/-- A table word that decodes is the number of a request that decodes so, as a wider number is rejected. -/
theorem requestOf_of_decodeTableWord {nbits w : Nat} {i : Instr} (h : decodeTableWord nbits w = some i) :
    ∃ r, requestOf (tableWord nbits w) = .ok r ∧ decodeRequest r = i := by
  unfold decodeTableWord decodeWord at h
  cases hreq : requestOf (tableWord nbits w) with
  | ok r => rw [hreq] at h; injection h with h; exact ⟨r, rfl, h⟩
  | error e => rw [hreq] at h; cases h

/-- Settles O52: placing presents the word's request first to an idle block, whose step takes it. -/
theorem placedWordRunsNext : Obligations.PlacedWordRunsNext := by
  intro s nbits w i h
  obtain ⟨r, hreq, rfl⟩ := requestOf_of_decodeTableWord h
  rw [State.withFetchWord, hreq]
  exact step_idle rfl rfl rfl

end Sys2Proof.Machine
end

section
/-! What the divider computes (`41_syndrome.md` rules R70 to R73): the remainder of every pattern below `2^19`, which is linear, has 11
bits, and is zero on the multiples of the generator. -/

namespace Sys2Proof.Machine

/-! ### The result -/

/-- A pattern below `2^19` is that of a code integer (R61, R79). -/
theorem pattern_setWidth {p : Word32} (hp : p.toNat < 2 ^ 19) : pattern (p.setWidth 20) = p := by
  apply BitVec.eq_of_toNat_eq
  simp only [pattern, BitVec.toNat_setWidth]
  omega

/-- The divider returns the remainder of every pattern below `2^19` (R70). -/
theorem synd_of_lt {p : Word32} (hp : p.toNat < 2 ^ 19) : synd 33 p = some (pmod p) := by
  have hcode : (p.setWidth 20).toNat < 2 ^ 19 := by rw [BitVec.toNat_setWidth]; omega
  have hsynd := synd_pattern hcode
  rwa [pattern_setWidth hp] at hsynd

/-- Below `2^19` the quotient has 8 digits: that of `X^i` is the top of `topQuotient`, as for the whole register. -/
theorem twoPow_xor_pmod_of_lt : ∀ i, i < 19 →
    BitVec.twoPow 32 i ^^^ pmod (BitVec.twoPow 32 i) = genMultiple (topQuotient >>> (31 - i)) 8 := by decide +kernel

/-- A value below `2^19` and its remainder differ by a multiple of the generator with 8 digits. -/
theorem exists_xor_pmod_eq_genMultiple_of_lt {p : Word32} (hp : p.toNat < 2 ^ 19) :
    ∃ q, p ^^^ pmod p = genMultiple q 8 := by
  refine xor_induction (P := fun p => ∃ q, p ^^^ pmod p = genMultiple q 8) ⟨0, by decide +kernel⟩ ?_ 19
    (fun i hi => ⟨_, twoPow_xor_pmod_of_lt i hi⟩) p hp
  rintro a b ⟨q, hq⟩ ⟨q', hq'⟩
  refine ⟨q ^^^ q', ?_⟩
  rw [genMultiple_xor, ← hq, ← hq', pmod_xor]
  ac_rfl

/-- Below `2^19` the values with remainder zero are the multiples of the generator with 8 digits (R10). -/
theorem pmod_eq_zero_iff_of_lt {p : Word32} (hp : p.toNat < 2 ^ 19) : pmod p = 0 ↔ ∃ q, p = genMultiple q 8 := by
  constructor
  · intro hzero
    obtain ⟨q, hq⟩ := exists_xor_pmod_eq_genMultiple_of_lt hp
    exact ⟨q, by simpa [hzero] using hq⟩
  · rintro ⟨q, rfl⟩
    exact pmod_genMultiple q 8 (by omega)

/-- Settles O27: the divider's invariant gives the remainder, and division with quotient, digit by digit, its zeros. -/
theorem syndIsTheRemainder : Obligations.SyndIsTheRemainder := by
  intro p hp
  have hsynd := synd_of_lt hp
  exact ⟨hsynd, by rw [hsynd, Option.some_inj, pmod_eq_zero_iff_of_lt hp]⟩

/-- Settles O30: the divider returns the remainder of all four patterns, and the remainder is linear. -/
theorem syndIsLinear : Obligations.SyndIsLinear := by
  intro a b ha hb
  have hidem : pmod (pmod a) = pmod a := pmod_of_lt (pmod_lt a)
  have hra : synd 33 (pmod a) = some (pmod a) := by
    rw [synd_of_lt ((pmod_lt a).trans (by decide)), hidem]
  have hxor : synd 33 (a ^^^ b) = some (pmod a ^^^ pmod b) := by
    rw [synd_of_lt (xor_lt_two_pow ha hb), pmod_xor]
  refine ⟨_, _, synd_of_lt ha, synd_of_lt hb, hxor, hra, fun hlt => pmod_of_lt hlt, fun hzero => ?_⟩
  rw [hxor, hzero, synd_of_lt hb]
  exact congrArg some BitVec.zero_xor

/-! ### The two tests agree -/

/-- The threshold test holds exactly when the loop test does not (R63, R64, R72). -/
theorem belowThreshold_eq_not_inMaskRegion (p : Word32) : belowThreshold p = !inMaskRegion p := by
  rw [Bool.eq_iff_iff, Bool.not_eq_true', belowThreshold_iff, ← Bool.not_eq_true, inMaskRegion_iff, Nat.not_le]

/-- A pattern below the threshold is returned at once, as it is (R63). -/
theorem synd_one_of_belowThreshold {p : Word32} (h : belowThreshold p = true) : synd 1 p = some p := by
  simp [synd, divide, dividerStep, h]

/-- Settles O29: the two tests are opposite, so both lead to `FIX` on a pattern below the threshold. -/
theorem thresholdShortcutIsRedundant : Obligations.ThresholdShortcutIsRedundant := by
  refine ⟨belowThreshold_eq_not_inMaskRegion, fun s _ hb => ?_, fun p hp =>
    synd_one_of_belowThreshold (decide_eq_true hp)⟩
  have hm : inMaskRegion s.pat = false := by simpa [belowThreshold_eq_not_inMaskRegion] using hb
  rw [thresholdTest, loopTest, hb, hm]
  rfl

/-! ### Syndromes have 11 bits -/

/-- Only `SYN_X` changes `PAT` (R66). -/
theorem dividerStep_pat_of_ne_synX {s : State} (h : s.phase ≠ .synX) : (dividerStep s).pat = s.pat := by
  unfold dividerStep
  cases hp : s.phase with
  | synX => exact absurd hp h
  | synA => exact alignStep_pat s
  | idle | synT | synW | fix => rfl

/-- Only `SYN_A` changes `AUX` (R65). -/
theorem dividerStep_aux_of_ne_synA {s : State} (h : s.phase ≠ .synA) : (dividerStep s).aux = s.aux := by
  unfold dividerStep
  cases hp : s.phase with
  | synA => exact absurd hp h
  | idle | synT | synW | synX | fix => rfl

/-- In `FIX` the pattern is below `2^11`, whatever it was at the start, as a test that fails on it leads there (R71). -/
theorem divide_pat_lt_of_fix {s : State} (hs : s.phase ≠ .fix) {n : Nat} (hfix : (divide n s).phase = .fix) :
    (divide n s).pat.toNat < 2 ^ 11 := by
  induction n with
  | zero => exact absurd hfix hs
  | succ n ih =>
    rw [divide_succ] at hfix ⊢
    by_cases hprev : (divide n s).phase = .fix
    · simpa only [dividerStep, hprev] using ih hprev
    · have hphase : (divide n s).phase ≠ .synX := fun hp => by simp [dividerStep, hp] at hfix
      rw [dividerStep_pat_of_ne_synX hphase]
      exact Nat.not_le.mp fun hge => dividerStep_phase_ne_fix hprev hge hfix

/-- The divider has a result exactly in `FIX`, and it is `PAT` (R68). -/
theorem synd_eq_some_iff {n : Nat} {p r : Word32} : synd n p = some r ↔
    (divide n (startDivider p State.reset)).phase = .fix ∧ (divide n (startDivider p State.reset)).pat = r := by
  simp [synd]

/-- Settles O28: the two tests lead to `FIX` with 11-bit patterns only, and each of those is its own syndrome. -/
theorem syndromesAreBelowX11 : Obligations.SyndromesAreBelowX11 := by
  refine ⟨fun n p r h => ?_, fun r hr => ⟨1, r, synd_one_of_belowThreshold (decide_eq_true hr)⟩⟩
  obtain ⟨hfix, rfl⟩ := synd_eq_some_iff.mp h
  exact divide_pat_lt_of_fix (s := startDivider p State.reset) nofun hfix

end Sys2Proof.Machine
end

section
/-! How long the divider takes (`41_syndrome.md` rule R74): each kind of micro-step lowers a count that no other one raises. -/

namespace Sys2Proof.Machine

/-! ### Counting micro-steps -/

/-- The micro-steps in a phase are at most `f`, where every micro-step lowers `f` by one if it is made in that phase and does not
raise it otherwise. -/
theorem visits_le {ph : Phase} {f : State → Nat}
    (hf : ∀ s, DividerInv s → (if s.phase = ph then 1 else 0) + f (dividerStep s) ≤ f s) {s : State}
    (h : DividerInv s) (n : Nat) : visits ph n s ≤ f s := by
  induction n generalizing s with
  | zero => exact Nat.zero_le _
  | succ n ih =>
    have hrest := ih (dividerStep_keeps_inv h)
    have hstep := hf s h
    rw [visits]
    omega

/-- So are the shifts of `AUX`. -/
theorem shifts_le {f : State → Nat}
    (hf : ∀ s, DividerInv s →
      (if s.phase = .synA ∧ overlaps s.aux s.pat = false then 1 else 0) + f (dividerStep s) ≤ f s) {s : State}
    (h : DividerInv s) (n : Nat) : shifts n s ≤ f s := by
  induction n generalizing s with
  | zero => exact Nat.zero_le _
  | succ n ih =>
    have hrest := ih (dividerStep_keeps_inv h)
    have hstep := hf s h
    rw [shifts]
    omega

/-- The phases of a division do not depend on `CODE`. -/
theorem visits_setCode (ph : Phase) (c : CodeInt) (n : Nat) (s : State) :
    visits ph n (setCode c s) = visits ph n s := by
  induction n generalizing s with
  | zero => rfl
  | succ n ih => rw [visits, visits, setCode_phase, dividerStep_setCode, ih]

/-- Nor do its shifts. -/
theorem shifts_setCode (c : CodeInt) (n : Nat) (s : State) : shifts n (setCode c s) = shifts n s := by
  induction n generalizing s with
  | zero => rfl
  | succ n ih => rw [shifts, shifts, setCode_phase, setCode_aux, setCode_pat, dividerStep_setCode, ih]

/-! ### The four counts -/

/-- How many bits of `PAT[31:11]` may still be cancelled. -/
def cancelsLeft (s : State) : Nat := s.pat.toNat.size - 11

/-- How many shifts `AUX` may still make, down to `2^11`. -/
def shiftsLeft (s : State) : Nat := s.aux.toNat.size - 12

/-- The threshold test is made once, at the start (R63). -/
def thresholdTestsLeft (s : State) : Nat := if s.phase = .synT then 1 else 0

/-- The loop tests: one for each bit that may still be cancelled, after its cancellation, and the first. -/
def loopTestsLeft (s : State) : Nat :=
  match s.phase with
  | .idle | .fix => 0
  | .synT | .synW => cancelsLeft s + 1
  | .synA | .synX => cancelsLeft s

/-- A cancellation takes away at least the bit it clears. -/
theorem cancelsLeft_cancelStep_lt {s : State} (hp : s.phase = .synX) (h : DividerInv s) :
    cancelsLeft (cancelStep s) < cancelsLeft s := by
  obtain ⟨k, hal, ho⟩ := (dividerInv_synX hp).mp h
  have hsize : k < s.pat.toNat.size := Nat.lt_size.mpr (Nat.ge_two_pow_of_testBit ho)
  have hsize' : (cancelStep s).pat.toNat.size ≤ k := Nat.size_le.mpr (hal.cancel_lt ho)
  obtain ⟨hge, -⟩ := hal
  simp only [cancelsLeft]
  omega

/-- Every micro-step in `SYN_X` lowers the number of cancellations left, and no other one changes it. -/
theorem cancelsLeft_dividerStep {s : State} (h : DividerInv s) :
    (if s.phase = .synX then 1 else 0) + cancelsLeft (dividerStep s) ≤ cancelsLeft s := by
  by_cases hp : s.phase = .synX
  · have hlt := cancelsLeft_cancelStep_lt hp h
    simp only [dividerStep, hp, if_true]
    omega
  · simp [cancelsLeft, dividerStep_pat_of_ne_synX hp, hp]

/-- A shift of `AUX` lowers the number of shifts left, and no other micro-step changes it. -/
theorem shiftsLeft_dividerStep {s : State} (h : DividerInv s) :
    (if s.phase = .synA ∧ overlaps s.aux s.pat = false then 1 else 0) + shiftsLeft (dividerStep s) ≤
      shiftsLeft s := by
  by_cases hshift : s.phase = .synA ∧ overlaps s.aux s.pat = false
  · obtain ⟨hp, ho⟩ := hshift
    obtain ⟨hm, k, hal⟩ := (dividerInv_synA hp).mp h
    have hbit : s.pat.getLsbD k = false := by
      obtain ⟨-, -, haux, -⟩ := hal
      rwa [haux, overlaps_twoPow] at ho
    have hk := hal.lt_of_not_overlaps ((inMaskRegion_iff _).mp hm) hbit
    have hsize := hal.size_aux
    have hsize' := (hal.shift hk hbit).size_aux
    simp only [shiftsLeft, dividerStep, hp, ho, alignStep_aux, cond_false, and_self, if_true] at hsize' ⊢
    omega
  · have hkeep : (dividerStep s).aux = s.aux := by
      by_cases hp : s.phase = .synA
      · have ho : overlaps s.aux s.pat = true := by simpa [hp] using hshift
        simp [dividerStep, hp, ho]
      · exact dividerStep_aux_of_ne_synA hp
    simp [shiftsLeft, hkeep, hshift]

/-- No micro-step leads back to the threshold test. -/
theorem thresholdTestsLeft_dividerStep (s : State) :
    (if s.phase = .synT then 1 else 0) + thresholdTestsLeft (dividerStep s) ≤ thresholdTestsLeft s := by
  have hnext : (dividerStep s).phase ≠ .synT := by
    unfold dividerStep
    cases hp : s.phase with
    | synT => simp only [thresholdTest_phase]; cases belowThreshold s.pat <;> simp
    | synW => simp only [loopTest_phase]; cases inMaskRegion s.pat <;> simp
    | synA => simp only [alignStep_phase, hp]; cases overlaps s.aux s.pat <;> simp
    | idle | synX | fix => simp [hp]
  simp [thresholdTestsLeft, hnext]

/-- Every micro-step in `SYN_W` lowers the number of loop tests left, and no other one raises it. -/
theorem loopTestsLeft_dividerStep {s : State} (h : DividerInv s) :
    (if s.phase = .synW then 1 else 0) + loopTestsLeft (dividerStep s) ≤ loopTestsLeft s := by
  cases hp : s.phase with
  | synT => cases hb : belowThreshold s.pat <;> simp [loopTestsLeft, dividerStep, hp, hb, cancelsLeft]
  | synW => cases hm : inMaskRegion s.pat <;> simp [loopTestsLeft, dividerStep, hp, hm, cancelsLeft, Nat.add_comm]
  | synA => cases ho : overlaps s.aux s.pat <;> simp [loopTestsLeft, dividerStep, hp, ho, cancelsLeft]
  | synX =>
    have hlt := cancelsLeft_cancelStep_lt hp h
    simpa [loopTestsLeft, dividerStep, hp] using hlt
  | idle | fix => simp [loopTestsLeft, dividerStep, hp]

/-- Settles O31: a pattern below `2^19` has 8 bits to cancel, and `AUX` 7 shifts to make from its seed. -/
theorem dividerStepBounds : Obligations.DividerStepBounds := by
  intro p n hp
  have hcode : (p.setWidth 20).toNat < 2 ^ 19 := by rw [BitVec.toNat_setWidth]; omega
  have hinv : DividerInv (setCode (p.setWidth 20) (startDivider p State.reset)) :=
    (dividerInv_synT rfl).mpr ⟨rfl, (pattern_setWidth hp).symm, hcode⟩
  have hcancels : cancelsLeft (setCode (p.setWidth 20) (startDivider p State.reset)) ≤ 8 :=
    Nat.sub_le_sub_right (Nat.size_le.mpr hp) 11
  have hshifts : shiftsLeft (setCode (p.setWidth 20) (startDivider p State.reset)) ≤ 7 :=
    Nat.sub_le_sub_right (Nat.size_le.mpr (show x18.toNat < 2 ^ 19 by decide)) 12
  have hX := visits_le (fun _ => cancelsLeft_dividerStep) hinv n
  have hA := shifts_le (fun _ => shiftsLeft_dividerStep) hinv n
  have hT := visits_le (fun s _ => thresholdTestsLeft_dividerStep s) hinv n
  have hW := visits_le (fun _ => loopTestsLeft_dividerStep) hinv n
  rw [visits_setCode] at hX hT hW
  rw [shifts_setCode] at hA
  exact ⟨hX.trans hcancels, hA.trans hshifts, hT, hW.trans (Nat.succ_le_succ hcancels)⟩

end Sys2Proof.Machine
end

section
/-! The hang (`41_syndrome.md` rule R75): on a pattern of `2^19` or more the divider never returns, keeps the bits from position 19
on, and in the end changes neither `PAT` nor `AUX`. -/

namespace Sys2Proof.Machine

/-! ### Never a result -/

/-- A hung divider stays hung, over any number of micro-steps. -/
theorem divide_keeps_hung {s : State} (h : Hung s) (n : Nat) : Hung (divide n s) := by
  induction n with
  | zero => exact h
  | succ n ih => rw [divide_succ]; exact dividerStep_keeps_hung ih

/-- A division of `2^19` or more is hung from its start. -/
theorem hung_startDivider {p : Word32} (hp : 2 ^ 19 ≤ p.toNat) (s : State) : Hung (startDivider p s) :=
  ⟨hp, show x18.toNat ≤ 2 ^ 18 by decide, nofun, nofun⟩

/-- A hung divider has no result (R68). -/
theorem synd_eq_none_of_hung {p : Word32} (h : Hung (startDivider p State.reset)) (n : Nat) : synd n p = none := by
  obtain ⟨-, -, -, hfix⟩ := divide_keeps_hung h n
  rw [synd, if_neg hfix]

/-! ### The bits that stay -/

/-- No cancellation of a hung divider reaches the bits from position 19 on. -/
theorem dividerStep_pat_high {s : State} (h : Hung s) : (dividerStep s).pat >>> 19 = s.pat >>> 19 := by
  obtain ⟨-, haux, -, -⟩ := h
  obtain hkeep | hcancel := dividerStep_pat_cases s
  · rw [hkeep]
  · have hzero : cancelOperand s.aux >>> 19 = 0 := by
      apply BitVec.eq_of_toNat_eq
      rw [BitVec.toNat_ushiftRight, Nat.shiftRight_eq_div_pow]
      exact Nat.div_eq_of_lt (cancelOperand_lt haux)
    rw [hcancel, BitVec.ushiftRight_xor_distrib, hzero]
    exact BitVec.xor_zero

/-- They stay over any number of micro-steps. -/
theorem divide_pat_high {s : State} (h : Hung s) (n : Nat) : (divide n s).pat >>> 19 = s.pat >>> 19 := by
  induction n with
  | zero => rfl
  | succ n ih => rw [divide_succ, dividerStep_pat_high (divide_keeps_hung h n), ih]

/-! ### The end of the changes -/

/-- What a hung divider keeps: `AUX` is a power of two that it shifts down, past `2^11` in the end, and in `SYN_X` the pattern has
that bit. -/
def HungAligned (s : State) : Prop :=
  Hung s ∧ (s.aux.toNat < 2 ^ 11 ∨ ∃ k, 11 ≤ k ∧ k ≤ 18 ∧ s.aux = BitVec.twoPow 32 k) ∧
    (s.phase = .synX → overlaps s.aux s.pat = true)

/-- One shift of a power of two from `2^11` on, or of less (R65). -/
theorem shifted_lt_or_twoPow {a : Word32}
    (h : a.toNat < 2 ^ 11 ∨ ∃ k, 11 ≤ k ∧ k ≤ 18 ∧ a = BitVec.twoPow 32 k) :
    (a >>> 1).toNat < 2 ^ 11 ∨ ∃ k, 11 ≤ k ∧ k ≤ 18 ∧ a >>> 1 = BitVec.twoPow 32 k := by
  obtain hlt | ⟨k, hge, hle, rfl⟩ := h
  · rw [BitVec.toNat_ushiftRight]
    exact .inl ((Nat.shiftRight_le _ _).trans_lt hlt)
  · rw [twoPow_ushiftRight_one (by omega) (by omega)]
    by_cases hk : k = 11
    · subst hk; exact .inl (by decide)
    · exact .inr ⟨k - 1, by omega, by omega, rfl⟩

/-- Every micro-step keeps it: only `SYN_A` leads to `SYN_X`, on the bit it has found. -/
theorem dividerStep_keeps_hungAligned {s : State} (h : HungAligned s) : HungAligned (dividerStep s) := by
  obtain ⟨hung, haux, -⟩ := h
  refine ⟨dividerStep_keeps_hung hung, ?_, fun hX => ?_⟩
  · obtain hkeep | hshift := dividerStep_aux_cases s
    · rwa [hkeep]
    · rw [hshift]; exact shifted_lt_or_twoPow haux
  · obtain ⟨hpat, -, hidle, hfix⟩ := hung
    cases hp : s.phase with
    | idle => exact absurd hp hidle
    | fix => exact absurd hp hfix
    | synT => cases hb : belowThreshold s.pat <;> simp [dividerStep, hp, hb] at hX
    | synW => cases hm : inMaskRegion s.pat <;> simp [dividerStep, hp, hm] at hX
    | synX => simp [dividerStep, hp] at hX
    | synA =>
      cases ho : overlaps s.aux s.pat with
      | false => simp [dividerStep, hp, ho] at hX
      | true => simp [dividerStep, hp, ho]

/-- After a cancellation from `2^11` on, which clears the bit of `AUX`, a hung divider shifts `AUX` two micro-steps later. -/
theorem divide_three_aux_lt {s : State} (h : HungAligned s) (hp : s.phase = .synX) (hge : 2 ^ 11 ≤ s.aux.toNat) :
    (divide 3 s).aux.toNat < s.aux.toNat := by
  obtain ⟨hung, haux, hov⟩ := h
  obtain ⟨k, hk, hk', htwo⟩ := haux.resolve_left (Nat.not_lt.mpr hge)
  have hclear : overlaps s.aux (cancelStep s).pat = false := by
    have hbit := hov hp
    obtain ⟨htop, -⟩ := genpol_shift_top k (by omega) hk
    rw [htwo, overlaps_twoPow] at hbit
    rw [cancelStep_pat, htwo, overlaps_twoPow, xor_cancelOperand_getLsbD _ hk (by omega), hbit, htop]
    rfl
  have hmask : inMaskRegion (cancelStep s).pat = true := by
    obtain ⟨hpat, -⟩ := dividerStep_keeps_hung hung
    rw [dividerStep, hp] at hpat
    exact (inMaskRegion_iff _).mpr (le_trans (by decide) hpat)
  have hthree : (divide 3 s).aux = s.aux >>> 1 := by
    have h₁ : dividerStep s = cancelStep s := by simp only [dividerStep, hp]
    have h₂ : dividerStep (cancelStep s) = loopTest (cancelStep s) := rfl
    have h₃ : dividerStep (loopTest (cancelStep s)) = alignStep (loopTest (cancelStep s)) := by
      simp only [dividerStep, loopTest_phase, hmask, cond_true]
    simp only [divide, h₁, h₂, h₃, alignStep_aux, loopTest_aux, loopTest_pat, cancelStep_aux, hclear, cond_false]
  rw [hthree, BitVec.toNat_ushiftRight, Nat.shiftRight_eq_div_pow]
  omega

/-- `AUX` never grows. -/
theorem divide_aux_antitone (s : State) : Antitone fun n => (divide n s).aux.toNat :=
  antitone_nat_of_succ_le fun n => by rw [divide_succ]; exact dividerStep_aux_le _

/-- It keeps that over any number of micro-steps. -/
theorem divide_keeps_hungAligned {s : State} (h : HungAligned s) (n : Nat) : HungAligned (divide n s) := by
  induction n with
  | zero => exact h
  | succ n ih => rw [divide_succ]; exact dividerStep_keeps_hungAligned ih

/-- Where a hung divider has stopped shifting `AUX`, it does not change `PAT`: a cancellation from `2^11` on would be followed by a
shift, and one from below adds nothing. -/
theorem dividerStep_pat_eq_of_aux_const {s : State} (h : HungAligned s) (hconst : (divide 3 s).aux = s.aux) :
    (dividerStep s).pat = s.pat := by
  by_cases hp : s.phase = .synX
  · have hlt : s.aux.toNat < 2 ^ 11 := by
      by_contra hge
      exact absurd (divide_three_aux_lt h hp (Nat.not_lt.mp hge)) (hconst ▸ lt_irrefl _)
    simp only [dividerStep, hp, cancelStep_pat, cancelOperand_of_lt hlt]
    exact BitVec.xor_zero
  · exact dividerStep_pat_of_ne_synX hp

/-- A hung divider ends up with constant `PAT` and `AUX`. -/
theorem exists_divide_const {s : State} (h : HungAligned s) :
    ∃ N, ∀ n, N ≤ n → (divide n s).pat = (divide N s).pat ∧ (divide n s).aux = (divide N s).aux := by
  obtain ⟨N, hN⟩ := WellFoundedLT.antitone_chain_condition (divide_aux_antitone s)
  have haux : ∀ n, N ≤ n → (divide n s).aux = (divide N s).aux := fun n hn =>
    (BitVec.eq_of_toNat_eq (hN n hn)).symm
  refine ⟨N, fun n hn => ⟨?_, haux n hn⟩⟩
  induction n, hn using Nat.le_induction with
  | base => rfl
  | succ n hn ih =>
    have hconst : (divide 3 (divide n s)).aux = (divide n s).aux := by
      rw [← divide_add, haux _ (by omega), haux n hn]
    rw [divide_succ, dividerStep_pat_eq_of_aux_const (divide_keeps_hungAligned h n) hconst, ih]

/-- Settles O32: the hang is an invariant of the divider, no cancellation reaches bit 19, and `AUX`, which only shrinks, and with it
`PAT`, comes to a rest. -/
theorem dividerHangsFromTwoToTheNineteen : Obligations.DividerHangsFromTwoToTheNineteen := by
  intro p hp
  have hung := hung_startDivider hp State.reset
  have hal : HungAligned (startDivider p State.reset) := ⟨hung, .inr ⟨18, by omega, by omega, show x18 = _ by decide⟩, nofun⟩
  exact ⟨synd_eq_none_of_hung hung, divide_pat_high hung, exists_divide_const hal⟩

end Sys2Proof.Machine
end

section
/-! The errors of weight 1 to 3 on the 19 bits of a code integer, with their remainders (`00_scope.md` rules R9, R10). -/

namespace Sys2Proof.Machine

/-! ### Weight -/

/-- The weight of the low bits depends on them only. -/
theorem weightBelow_congr {x y : Word32} {n : Nat} (h : ∀ j < n, x.getLsbD j = y.getLsbD j) :
    weightBelow x n = weightBelow y n := by
  induction n with
  | zero => rfl
  | succ n ih => rw [weightBelow, weightBelow, ih fun j hj => h j (by omega), h n (by omega)]

/-- A value below `2^n` has no ones from position `n` on. -/
theorem weight_eq_weightBelow {p : Word32} {n : Nat} (hn : n ≤ 32) (hp : p.toNat < 2 ^ n) :
    weight p = weightBelow p n := by
  have hall : ∀ k, n ≤ k → weightBelow p k = weightBelow p n := by
    intro k hk
    induction k, hk using Nat.le_induction with
    | base => rfl
    | succ k hk ih =>
      have hbit : p.getLsbD k = false := Nat.testBit_lt_two_pow (hp.trans_le (Nat.pow_le_pow_right (by omega) hk))
      rw [weightBelow, hbit, ih]
      rfl
  exact hall 32 hn

/-- Flipping bit `n` leaves the ones below it. -/
theorem weightBelow_xor_twoPow (p : Word32) (n : Nat) : weightBelow (p ^^^ BitVec.twoPow 32 n) n = weightBelow p n := by
  refine weightBelow_congr fun j hj => ?_
  have hne : n ≠ j := by omega
  simp [BitVec.getLsbD_twoPow, hne]

/-- Flipping bit `n` of a value below `2^(n+1)` that has it gives one below `2^n`, and of no other value. -/
theorem xor_twoPow_lt_iff {p : Word32} {n : Nat} (hn : n < 32) :
    (p ^^^ BitVec.twoPow 32 n).toNat < 2 ^ n ↔ p.toNat < 2 ^ (n + 1) ∧ p.getLsbD n = true := by
  have htwo : (BitVec.twoPow 32 n).toNat < 2 ^ (n + 1) := by
    rw [BitVec.toNat_twoPow_of_lt hn]
    exact Nat.pow_lt_pow_succ (by omega)
  have hbit : (p ^^^ BitVec.twoPow 32 n).getLsbD n = !p.getLsbD n := by simp [hn]
  constructor
  · intro h
    have hback := xor_lt_two_pow (h.trans (Nat.pow_lt_pow_succ (by omega))) htwo
    rw [BitVec.xor_assoc, BitVec.xor_self, BitVec.xor_zero] at hback
    exact ⟨hback, (Bool.not_eq_false' _).mp (hbit.symm.trans (Nat.testBit_lt_two_pow h))⟩
  · rintro ⟨hp, hset⟩
    exact toNat_lt_of_top_clear (xor_lt_two_pow hp htwo) (by rw [hbit, hset]; rfl)

/-! ### The light errors -/

/-- The values below `2^n` with at most `m` ones, each with its remainder, by the value of bit `n - 1`. -/
def lightErrors : Nat → Nat → List (Word32 × Word32)
  | 0, _ => [(0, 0)]
  | n + 1, 0 => lightErrors n 0
  | n + 1, m + 1 => lightErrors n (m + 1) ++
      (lightErrors n m).map fun (p, r) => (p ^^^ BitVec.twoPow 32 n, r ^^^ pmod (BitVec.twoPow 32 n))

/-- The second part of the list holds the values with bit `n`. -/
theorem mem_lightErrors_succ_succ {n m : Nat} {p r : Word32} : (p, r) ∈ lightErrors (n + 1) (m + 1) ↔
    (p, r) ∈ lightErrors n (m + 1) ∨
      (p ^^^ BitVec.twoPow 32 n, r ^^^ pmod (BitVec.twoPow 32 n)) ∈ lightErrors n m := by
  rw [lightErrors, List.mem_append, List.mem_map]
  refine or_congr_right ⟨?_, fun h => ⟨_, h, by simp⟩⟩
  rintro ⟨⟨q, t⟩, h, heq⟩
  obtain ⟨rfl, rfl⟩ := Prod.mk.inj heq
  simpa [BitVec.xor_assoc] using h

/-- The list holds the values below `2^n` with at most `m` ones, and their remainders. -/
theorem mem_lightErrors_iff {n : Nat} (hn : n ≤ 32) {m : Nat} {p r : Word32} :
    (p, r) ∈ lightErrors n m ↔ p.toNat < 2 ^ n ∧ weightBelow p n ≤ m ∧ r = pmod p := by
  induction n generalizing m p r with
  | zero =>
    have hzero : p.toNat < 1 ↔ p = 0 := by rw [Nat.lt_one_iff, ← BitVec.toNat_inj]; rfl
    simp only [lightErrors, List.mem_singleton, Prod.mk.injEq, weightBelow, Nat.pow_zero, hzero, Nat.zero_le, true_and]
    refine and_congr_right fun h => ?_
    rw [h, pmod_zero]
  | succ n ih =>
    have ih := fun {m p r} => ih (by omega) (m := m) (p := p) (r := r)
    have htop := xor_twoPow_lt_iff (p := p) (n := n) (by omega)
    have hrem : r ^^^ pmod (BitVec.twoPow 32 n) = pmod p ^^^ pmod (BitVec.twoPow 32 n) ↔ r = pmod p :=
      BitVec.xor_left_inj _
    have hmono : p.toNat < 2 ^ n → p.toNat < 2 ^ (n + 1) := fun h => h.trans (Nat.pow_lt_pow_succ (by omega))
    cases hbit : p.getLsbD n with
    | false =>
      have hlt : p.toNat < 2 ^ (n + 1) ↔ p.toNat < 2 ^ n := ⟨fun h => toNat_lt_of_top_clear h hbit, hmono⟩
      cases m with
      | zero => simp [lightErrors, ih, weightBelow, hbit, hlt]
      | succ m => rw [mem_lightErrors_succ_succ, ih, ih, htop]; simp [weightBelow, hbit, hlt]
    | true =>
      have hge : ¬ p.toNat < 2 ^ n := fun h =>
        Bool.false_ne_true ((Nat.testBit_lt_two_pow h).symm.trans hbit)
      cases m with
      | zero => simp [lightErrors, ih, weightBelow, hbit, hge]
      | succ m =>
        rw [mem_lightErrors_succ_succ, ih, ih, htop, weightBelow_xor_twoPow, pmod_xor, hrem]
        simp [weightBelow, hbit, hge]

/-- The errors on 19 bits with at most three ones (R102). -/
theorem mem_lightErrors_nineteen_iff {p r : Word32} :
    (p, r) ∈ lightErrors 19 3 ↔ p.toNat < 2 ^ 19 ∧ weight p ≤ 3 ∧ r = pmod p := by
  rw [mem_lightErrors_iff (by omega)]
  exact and_congr_right fun hp => by rw [weight_eq_weightBelow (by omega) hp]

/-- Only zero has no ones. -/
theorem weight_eq_zero_iff {p : Word32} : weight p = 0 ↔ p = 0 := by
  refine ⟨fun h => ?_, fun h => h ▸ rfl⟩
  have hmem : (p, pmod p) ∈ lightErrors 32 0 := (mem_lightErrors_iff le_rfl).mpr ⟨p.isLt, h.le, rfl⟩
  obtain ⟨hp, -⟩ := Prod.mk.inj (List.mem_singleton.mp hmem)
  exact hp

end Sys2Proof.Machine
end

section
/-! The reference contents of the two ROMs (`43_rom_contents.md` rules R98, R102, R103; log 9), and what an instance holds (rules R94,
R117). -/

namespace Sys2Proof.Machine

/-! ### The encode ROM -/

/-- Settles O40: the 256 words of the listing, each against its rule. -/
theorem referenceEncRomFollowsItsRule : Obligations.ReferenceEncRomFollowsItsRule := by
  unfold Obligations.ReferenceEncRomFollowsItsRule
  decide +kernel

/-! ### The decode ROM, at the remainders of the light errors -/

@[simp] theorem pattern_toNat (c : CodeInt) : (pattern c).toNat = c.toNat := by
  rw [pattern, BitVec.toNat_setWidth]
  omega

@[simp] theorem pattern_zero : pattern 0 = 0 := rfl

theorem pattern_inj {c d : CodeInt} : pattern c = pattern d ↔ c = d := by
  rw [← BitVec.toNat_inj, pattern_toNat, pattern_toNat, BitVec.toNat_inj]

/-- The listing holds every error of weight at most 3 at its remainder. -/
theorem reset_readDec_of_mem_lightErrors {p r : Word32} (h : (p, r) ∈ lightErrors 19 3) :
    pattern (State.reset.mem.readDec (r.setWidth 12)) = p := by
  have hall : (lightErrors 19 3).all
      (fun x => pattern (State.reset.mem.readDec (x.2.setWidth 12)) == x.1) = true := by decide +kernel
  simpa only [beq_iff_eq] using List.all_eq_true.mp hall (p, r) h

/-- So the default decode ROM corrects every such error (R102). -/
theorem reset_readDec_pmod {e : CodeInt} (he : e.toNat < 2 ^ 19) (hw : weight (pattern e) ≤ 3) :
    State.reset.mem.readDec ((pmod (pattern e)).setWidth 12) = e := by
  have hmem : (pattern e, pmod (pattern e)) ∈ lightErrors 19 3 :=
    mem_lightErrors_nineteen_iff.mpr ⟨by rwa [pattern_toNat], hw, rfl⟩
  exact pattern_inj.mp (reset_readDec_of_mem_lightErrors hmem)

/-! ### The decode ROM, at all other addresses -/

/-- The number whose bits at the positions in `l` are set. -/
def bitSet (l : List Nat) : Nat := l.foldr (fun a m => 2 ^ a ||| m) 0

theorem testBit_bitSet {l : List Nat} {a : Nat} : (bitSet l).testBit a = true ↔ a ∈ l := by
  induction l with
  | nil => simp [bitSet]
  | cons b l ih =>
    have hcons : bitSet (b :: l) = 2 ^ b ||| bitSet l := rfl
    simp [hcons, ih, Nat.testBit_two_pow, eq_comm (a := a)]

/-- Every word of the listing that is not zero stands at the remainder of an error of weight at most 3. -/
theorem mem_map_lightErrors_of_decRomReference {e : CodeInt} {a : Nat} (h : (e, a) ∈ decRomReference.zipIdx)
    (hne : e ≠ 0) : a ∈ (lightErrors 19 3).map fun y => y.2.toNat := by
  have hall : decRomReference.zipIdx.all (fun x =>
      x.1 == 0 || (bitSet ((lightErrors 19 3).map fun y => y.2.toNat)).testBit x.2) = true := by decide +kernel
  have hword := List.all_eq_true.mp hall (e, a) h
  rwa [beq_false_of_ne hne, Bool.false_or, testBit_bitSet] at hword

/-- The default decode ROM reads as the listing. -/
theorem reset_readDec_eq_getD (a : BitVec 12) : State.reset.mem.readDec a = decRomReference.getD a.toNat 0 :=
  decUnlisted_eq a.toNat

theorem exists_lightError_of_readDec_ne_zero {a : BitVec 12} (h : State.reset.mem.readDec a ≠ 0) :
    ∃ p, (p, a.setWidth 32) ∈ lightErrors 19 3 := by
  have ha : a.toNat < decRomReference.length := decRomReference_length ▸ a.isLt
  rw [reset_readDec_eq_getD, List.getD_eq_getElem _ _ ha] at h
  have hplace : (decRomReference[a.toNat], a.toNat) ∈ decRomReference.zipIdx :=
    List.mem_zipIdx_iff_getElem?.mpr (List.getElem?_eq_getElem ha)
  obtain ⟨⟨p, r⟩, hmem, hr⟩ := List.mem_map.mp (mem_map_lightErrors_of_decRomReference hplace h)
  have hra : r = a.setWidth 32 := by
    apply BitVec.eq_of_toNat_eq
    rw [BitVec.toNat_setWidth, ← hr]
    exact (Nat.mod_eq_of_lt r.isLt).symm
  exact ⟨p, hra ▸ hmem⟩

/-- A word of the default decode ROM that is not zero is an error of weight 1 to 3 that has its address for remainder. -/
theorem reset_readDec_of_ne_zero {a : BitVec 12} (h : State.reset.mem.readDec a ≠ 0) :
    (State.reset.mem.readDec a).toNat < 2 ^ 19 ∧ 1 ≤ weight (pattern (State.reset.mem.readDec a)) ∧
      weight (pattern (State.reset.mem.readDec a)) ≤ 3 ∧
      pmod (pattern (State.reset.mem.readDec a)) = a.setWidth 32 := by
  obtain ⟨p, hmem⟩ := exists_lightError_of_readDec_ne_zero h
  have hp : pattern (State.reset.mem.readDec a) = p := by
    have hread := reset_readDec_of_mem_lightErrors hmem
    have haddr : (a.setWidth 32).setWidth 12 = a := by simp
    rwa [haddr] at hread
  obtain ⟨hlt, hweight, hrem⟩ := mem_lightErrors_nineteen_iff.mp hmem
  rw [← hp] at hlt hweight hrem
  refine ⟨by rwa [pattern_toNat] at hlt, Nat.one_le_iff_ne_zero.mpr fun hzero => h ?_, hweight, hrem.symm⟩
  rw [← pattern_inj, pattern_zero]
  exact weight_eq_zero_iff.mp hzero

/-- Every word of the default decode ROM is below `2^19` (R103). -/
theorem reset_readDec_lt (a : BitVec 12) : (State.reset.mem.readDec a).toNat < 2 ^ 19 := by
  by_cases hzero : State.reset.mem.readDec a = 0
  · rw [hzero]; decide
  · obtain ⟨hlt, -⟩ := reset_readDec_of_ne_zero hzero
    exact hlt

/-- Remainder zero has no correction (R100). -/
theorem reset_readDec_zero : State.reset.mem.readDec 0 = 0 := by decide +kernel

/-- Settles O41: the errors of weight at most 3 are enumerated with their remainders, against the listing and the listing against
them. -/
theorem referenceDecRomFollowsItsRule : Obligations.ReferenceDecRomFollowsItsRule := by
  refine ⟨reset_readDec_zero, fun e he _ hw => reset_readDec_pmod he hw, fun a hno => ?_⟩
  by_contra hne
  obtain ⟨hlt, hpos, hw, hrem⟩ := reset_readDec_of_ne_zero hne
  exact hno ⟨_, hlt, hpos, hw, by simp [hrem]⟩

/-- Settles O42: a word is zero or an error that has its address for remainder. -/
theorem referenceCorrectionsGiveCodewords : Obligations.ReferenceCorrectionsGiveCodewords := by
  refine fun a => ⟨reset_readDec_lt a, fun _ hne => ?_⟩
  obtain ⟨-, -, -, hrem⟩ := reset_readDec_of_ne_zero hne
  exact hrem

/-! ### The instances -/

/-- What is loaded is read back at every address: the encode ROM. -/
theorem encRom_getElem?_eq_readEnc {c : Config} (h : c.encRom.length = encDepth) (a : Byte) :
    c.encRom[a.toNat]? = some ((Memory.ofConfig c).readEnc a) := by
  have ha : a.toNat < c.encRom.length := h ▸ a.isLt
  rw [readEnc_ofConfig c h, List.getD_eq_getElem _ _ ha, List.getElem?_eq_getElem ha]

/-- What is loaded is read back at every address: the decode ROM. -/
theorem decRom_getElem?_eq_readDec {c : Config} (h : c.decRom.length = decDepth) (a : BitVec 12) :
    c.decRom[a.toNat]? = some ((Memory.ofConfig c).readDec a) := by
  have ha : a.toNat < c.decRom.length := h ▸ a.isLt
  rw [readDec_ofConfig c h, List.getD_eq_getElem _ _ ha, List.getElem?_eq_getElem ha]

/-- A configuration that meets rules R100 and R101 gives a memory that meets them. -/
theorem decValid_ofConfig {c : Config} (hlen : c.decRom.length = decDepth) (hzero : c.decZeroOk = true)
    (hsingles : c.decSinglesOk = true) : (Memory.ofConfig c).DecValid := by
  refine ⟨?_, fun i hi => ?_⟩
  · have hread := decRom_getElem?_eq_readDec hlen 0
    rw [Config.decZeroOk, beq_iff_eq] at hzero
    exact Option.some_inj.mp (hread.symm.trans hzero)
  · have haddr : (syndromeAddress (pmod (BitVec.twoPow 32 i))).toNat = (pmod (BitVec.twoPow 32 i)).toNat := by
      have hlt := pmod_lt (BitVec.twoPow 32 i)
      rw [syndromeAddress_of_lt hlt, BitVec.toNat_setWidth]
      omega
    have hread := decRom_getElem?_eq_readDec hlen (syndromeAddress (pmod (BitVec.twoPow 32 i)))
    have hok := List.all_eq_true.mp hsingles i (List.mem_range.mpr hi)
    rw [haddr] at hread
    rw [Config.decSingleOk, hread] at hok
    exact beq_iff_eq.mp hok

/-- Both ROMs of every instance meet their constraints (R94). -/
theorem valid_of_instantiate {c : Config} {s : State} (h : instantiate c = .next s) : s.mem.Valid := by
  refine ⟨encValid_of_instantiate h, ?_⟩
  obtain ⟨-, hlen, hok, rfl⟩ := instantiate_cases h
  simp only [Config.contentsOk, Bool.and_eq_true] at hok
  obtain ⟨⟨-, hzero⟩, hsingles⟩ := hok
  exact decValid_ofConfig hlen hzero hsingles

/-- A configuration is well formed exactly when both lengths and the contents are right (R94). -/
theorem wellFormed_iff (c : Config) :
    c.wellFormed = true ↔ c.encRom.length = encDepth ∧ c.decRom.length = decDepth ∧ c.contentsOk = true := by
  simp [Config.wellFormed, Config.lengthsOk, and_assoc]

/-- A well-formed configuration gives an instance (R94, R117). -/
theorem instantiate_of_wellFormed {c : Config} (h : c.wellFormed = true) :
    instantiate c = .next { State.reset with mem := Memory.ofConfig c } := by
  obtain ⟨he, hd, hok⟩ := (wellFormed_iff c).mp h
  rw [instantiate, if_neg (not_not.mpr he), if_neg (not_not.mpr hd), if_pos hok]

/-- The reference contents meet the constraints (R94). -/
theorem referenceConfig_wellFormed : referenceConfig.wellFormed = true :=
  (wellFormed_iff _).mpr ⟨encRomReference_length, decRomReference_length, by decide +kernel⟩

/-- The instance of the reference contents is the reset state (log 9). -/
theorem instantiate_referenceConfig : instantiate referenceConfig = .next State.reset := by
  rw [instantiate_of_wellFormed referenceConfig_wellFormed, ofConfig_reference]
  rfl

/-- Settles O44: an instance is built of a well-formed configuration only, which is read back word for word. -/
theorem instanceHoldsItsConfiguration : Obligations.InstanceHoldsItsConfiguration := by
  refine ⟨fun c s h => ?_, fun c h => ⟨_, instantiate_of_wellFormed h⟩, instantiate_referenceConfig⟩
  have hvalid := valid_of_instantiate h
  obtain ⟨he, hd, hok, rfl⟩ := instantiate_cases h
  exact ⟨(wellFormed_iff c).mpr ⟨he, hd, hok⟩, rfl, ofConfig_wf c, hvalid, encRom_getElem?_eq_readEnc he,
    decRom_getElem?_eq_readDec hd⟩

end Sys2Proof.Machine
end

section
/-! The fields of a codeword on the way from `ENC` to `DEC` (`30_encoding.md` rules R48 to R50, `40_encoder.md` section 2,
`42_decoder.md` section 3): what is carried unmodified, and what `DEC` does not look at. -/

namespace Sys2Proof.Machine

/-! ### Packing -/

/-- The bytes of a packed codeword are taken apart as they were put together (R32). -/
theorem packCodeword_extractLsb_b0 (b0 b1 b2 : Byte) : (packCodeword b0 b1 b2).extractLsb' 16 8 = b0 := by
  refine BitVec.eq_of_getLsbD_eq fun j hj => ?_
  have h : ¬ 16 + j < 8 := by omega
  simp [packCodeword_getLsbD, hj, h]

theorem packCodeword_extractLsb_b1 (b0 b1 b2 : Byte) : (packCodeword b0 b1 b2).extractLsb' 8 8 = b1 := by
  refine BitVec.eq_of_getLsbD_eq fun j hj => ?_
  have h : 8 + j < 16 := by omega
  simp [packCodeword_getLsbD, hj, h]

theorem packCodeword_extractLsb_b2 (b0 b1 b2 : Byte) : (packCodeword b0 b1 b2).extractLsb' 0 8 = b2 := by
  refine BitVec.eq_of_getLsbD_eq fun j hj => ?_
  simp [packCodeword_getLsbD, hj]

/-- The `DEC` of a packed codeword is that of its bytes (R32, R44). -/
theorem decOf_packCodeword (b0 b1 b2 : Byte) : decOf (packCodeword b0 b1 b2) = .dec b0 b1 b2 := by
  rw [decOf, packCodeword_extractLsb_b0, packCodeword_extractLsb_b1, packCodeword_extractLsb_b2]

/-! ### `ENC` is systematic -/

/-- A data value of 8 bits, with nothing reserved set, is in range (R55). -/
theorem outOfRange_encArg_of_le {v : DataPort} (hv : v ≤ 0xFF) : outOfRange (encArg 0 v) = false := by
  have harg : (encArg 0 v).toNat = v.toNat := by
    rw [encArg, BitVec.toNat_append]
    simp
  refine Bool.eq_false_iff.mpr fun h => Nat.not_lt.mpr hv ?_
  rw [← harg]
  exact (outOfRange_iff _).mp h

/-- Settles O11: the codeword is packed with the data byte first, which the reassembly puts at bits 18:11. -/
theorem encIsSystematic : Obligations.EncIsSystematic := by
  intro s t v _ hv h
  rw [exec_enc_of_inRange (outOfRange_encArg_of_le hv), dataByte_encArg] at h
  injection h with h
  subst h
  have hbyte : (encodedWord s.mem (v.extractLsb' 0 8)).extractLsb' 16 8 = v.extractLsb' 0 8 :=
    packCodeword_extractLsb_b0 _ _ _
  rw [complete_res, reassemble_extractLsb_b0, hbyte]
  exact ⟨rfl, rfl⟩

/-! ### `DEC` ignores the low five bits -/

/-- The reassembly takes of the third byte its top three bits only (R80). -/
theorem reassemble_congr {b2 b2' : Byte} (h : b2.extractLsb' 5 3 = b2'.extractLsb' 5 3) (b0 b1 : Byte) :
    reassemble b0 b1 b2 = reassemble b0 b1 b2' := by
  refine BitVec.eq_of_getLsbD_eq fun j _ => ?_
  rw [reassemble_getLsbD, reassemble_getLsbD]
  split
  · next hj => simpa [hj, Nat.add_comm 5 j] using congrArg (BitVec.getLsbD · j) h
  · rfl

/-- The top three bits of a checksum are those of its high byte (R48). -/
theorem checksumHigh_extractLsb (cs : Checksum) : (checksumHigh cs).extractLsb' 5 3 = cs.extractLsb' 13 3 := by
  refine BitVec.eq_of_getLsbD_eq fun j hj => ?_
  have h₁ : 5 + j < 8 := by omega
  have h₂ : 8 + (5 + j) = 13 + j := by omega
  simp [checksumHigh, hj, h₁, h₂]

/-- Settles O14: all that `DEC` does with its bytes is to reassemble them. -/
theorem decIgnoresTheLowFiveBits : Obligations.DecIgnoresTheLowFiveBits := by
  have hbytes : ∀ (s : State) (b0 b1 b2 b2' : Byte), b2.extractLsb' 5 3 = b2'.extractLsb' 5 3 →
      exec (.dec b0 b1 b2) s = exec (.dec b0 b1 b2') s := by
    intro s b0 b1 b2 b2' h
    simp only [exec, execDec, reassemble_congr h]
  refine ⟨hbytes, fun s v cs cs' hlow hhigh => ?_⟩
  have hlow' : checksumLow cs = checksumLow cs' := hlow
  rw [decOf_packCodeword, decOf_packCodeword, hlow']
  exact hbytes s _ _ _ _ (by rw [checksumHigh_extractLsb, checksumHigh_extractLsb, hhigh])

/-! ### The extracted value -/

/-- The bits of an extracted value (R85). -/
theorem extractValue_getLsbD (c : CodeInt) (j : Nat) : (extractValue c).getLsbD j = c.getLsbD (11 + j) := by
  rw [extractValue, BitVec.getLsbD_setWidth, BitVec.getLsbD_ushiftRight]
  by_cases hj : j < 24
  · simp [hj]
  · simp [hj, BitVec.getLsbD_of_ge c (11 + j) (by omega)]

/-- A code integer below `2^19` gives a byte. -/
theorem extractValue_le {c : CodeInt} (hc : c.toNat < 2 ^ 19) : extractValue c ≤ 0xFF := by
  refine BitVec.le_def.mpr (Nat.le_of_lt_succ (Nat.lt_pow_two_of_testBit (n := 8) _ fun j hj => ?_))
  rw [BitVec.testBit_toNat, extractValue_getLsbD]
  exact Nat.testBit_lt_two_pow (hc.trans_le (Nat.pow_le_pow_right (by omega) (by omega)))

/-- Settles O20: bit by bit; the code integer has no bit 19, and no word of the default decode ROM has. -/
theorem extractedValueIsNineBits : Obligations.ExtractedValueIsNineBits := by
  intro code ep hcode
  refine ⟨?_, ?_, ?_, ?_, fun a => extractValue_le ?_⟩
  · refine BitVec.eq_of_getLsbD_eq fun j hj => ?_
    rw [extractValue_getLsbD, BitVec.getLsbD_setWidth, BitVec.getLsbD_extractLsb']
    by_cases h : j < 9
    · simp [h, hj]
    · simp [h, BitVec.getLsbD_of_ge (correct code ep) (11 + j) (by omega)]
  · refine BitVec.eq_of_getLsbD_eq fun j hj => ?_
    simp [extractValue_getLsbD, hj]
  · have htop : code.getLsbD 19 = false := Nat.testBit_lt_two_pow hcode
    rw [extractValue_getLsbD, correct_eq_xor, BitVec.getLsbD_xor, htop, Bool.false_xor]
  · refine BitVec.eq_of_getLsbD_eq fun j hj => ?_
    simp [extractValue_getLsbD, BitVec.getLsbD_of_ge (correct code ep) (11 + (9 + j)) (by omega)]
  · rw [correct_eq_xor, BitVec.toNat_xor]
    exact Nat.xor_lt_two_pow hcode (reset_readDec_lt a)

end Sys2Proof.Machine
end

section
/-! The code end to end (`42_decoder.md` section 3, `43_rom_contents.md` section 2): what `DEC` answers on a codeword with an error,
and that it corrects the errors which the decode ROM holds. -/

namespace Sys2Proof.Machine

/-! ### Distance -/

/-- The multiples of the generator below `2^19`, but for zero, have at least 7 ones (R99). -/
theorem seven_le_weight_of_ne_zero : ∀ x : Byte, x ≠ 0 →
    7 ≤ weight ((x.setWidth 32 <<< 11) ^^^ pmod (x.setWidth 32 <<< 11)) := by decide +kernel

/-- The pattern of a valid ROM's codeword is its data byte's field with the remainder (R60, R96). -/
theorem Memory.EncValid.pattern_codeInteger {m : Memory} (h : m.EncValid) (v : Byte) :
    pattern (codeInteger v (m.readEnc v)) = (v.setWidth 32 <<< 11) ^^^ pmod (v.setWidth 32 <<< 11) := by
  obtain ⟨-, -, hpar⟩ := h
  rw [Machine.pattern_codeInteger, hpar]

/-- Settles O35: the difference of two codewords is the codeword of the difference, as the remainder is linear. -/
theorem distinctCodewordsDifferInSevenBits : Obligations.DistinctCodewordsDifferInSevenBits := by
  intro m v w hm hne
  have hdiff : (v.setWidth 32 <<< 11 ^^^ pmod (v.setWidth 32 <<< 11)) ^^^
      (w.setWidth 32 <<< 11 ^^^ pmod (w.setWidth 32 <<< 11)) =
      ((v ^^^ w).setWidth 32 <<< 11) ^^^ pmod ((v ^^^ w).setWidth 32 <<< 11) := by
    rw [BitVec.setWidth_xor, BitVec.shiftLeft_xor_distrib, pmod_xor]
    ac_rfl
  rw [hm.pattern_codeInteger, hm.pattern_codeInteger, hdiff]
  exact seven_le_weight_of_ne_zero _ fun h => hne (BitVec.xor_eq_zero_iff.mp h)

/-! ### The closed form -/

theorem pattern_xor (c e : CodeInt) : pattern (c ^^^ e) = pattern c ^^^ pattern e := BitVec.setWidth_xor

/-- On a codeword `c` with error `e`, `DEC` looks up the remainder of `e`, whatever the decode ROM holds. -/
theorem decodedValue_xor {m : Memory} {c : CodeInt} (hc : pmod (pattern c) = 0) (e : CodeInt) :
    decodedValue m (c ^^^ e) =
      ((c >>> 11) ^^^ ((e ^^^ m.readDec (syndromeAddress (pmod (pattern e)))) >>> 11)).setWidth 24 := by
  have hrem : pmod (pattern (c ^^^ e)) = pmod (pattern e) := by
    rw [pattern_xor, pmod_xor, hc]
    exact BitVec.zero_xor
  rw [decodedValue, hrem, correct_eq_xor, extractValue, BitVec.xor_assoc, BitVec.ushiftRight_xor_distrib]

/-- Settles O36: the answer is the decoded value, of which the codeword's part has remainder zero. -/
theorem decClosedForm : Obligations.DecClosedForm := by
  intro s b0 b1 b2 c e _ hc he hsynd hcode
  have hrem : pmod (pattern c) = 0 := Option.some_inj.mp ((synd_pattern hc).symm.trans hsynd)
  refine ⟨_, synd_pattern he, ?_⟩
  rw [← syndromeAddress_of_lt (pmod_lt _), ← decodedValue_xor hrem, ← hcode]
  exact answers_dec b0 b1 b2 s

/-! ### `ENC` answers -/

/-- Presented to a block in any state, `ENC` is answered by its response, in one step (R46, R54). -/
theorem answers_enc (rsvd : BitVec 12) (v : DataPort) (s : State) :
    Answers (.enc rsvd v) s (responseOf s.mem (.enc rsvd v)) := by
  have hstep := step_idle (s := presentNext (encode (.enc rsvd v)) s) rfl rfl rfl
  rw [decodeRequest_encode] at hstep
  obtain ⟨e, d, hexec, hrsp⟩ := execEnc_completes rsvd v { s with phase := .idle, rst := [] }
  change responseOf s.mem _ = _ at hrsp
  rw [hrsp]
  exact ⟨1, _, by omega, runs_succ_of_step (hstep.trans hexec) 0, rfl, rfl, rfl, rfl, rfl⟩

/-- A byte is answered by its codeword (R54). -/
theorem answers_enc_byte (v : Byte) (s : State) :
    Answers (.enc 0 (v.setWidth 12)) s (errNone ++ encodedWord s.mem v) := by
  have hle : v.setWidth 12 ≤ (0xFF : DataPort) := by
    rw [BitVec.le_def, BitVec.toNat_setWidth]
    exact (Nat.mod_le _ _).trans (Nat.le_of_lt_succ v.isLt)
  have hbyte : (v.setWidth 12).extractLsb' 0 8 = v := by
    refine BitVec.eq_of_getLsbD_eq fun j hj => ?_
    have h : j < 12 := by omega
    simp [hj, h]
  have hrsp : responseOf s.mem (.enc 0 (v.setWidth 12)) = errNone ++ encodedWord s.mem v := by
    simp only [responseOf, outOfRange_encArg_of_le hle, cond_false, dataByte_encArg, hbyte]
  exact hrsp ▸ answers_enc 0 (v.setWidth 12) s

/-! ### The received code integer -/

/-- The code integer that `DEC` reassembles from a packed codeword: its bits 23:5 (R80). -/
def receivedCode (cw : Cw24) : CodeInt := (cw.extractLsb' 5 19).setWidth 20

theorem receivedCode_getLsbD (cw : Cw24) (j : Nat) : (receivedCode cw).getLsbD j = (decide (j < 19) && cw.getLsbD (5 + j)) := by
  rw [receivedCode, BitVec.getLsbD_setWidth, BitVec.getLsbD_extractLsb']
  by_cases hj : j < 20
  · simp [hj]
  · have h : ¬ j < 19 := by omega
    simp [hj, h]

theorem receivedCode_xor (cw d : Cw24) : receivedCode (cw ^^^ d) = receivedCode cw ^^^ receivedCode d := by
  refine BitVec.eq_of_getLsbD_eq fun j _ => ?_
  simp only [receivedCode_getLsbD, BitVec.getLsbD_xor, Bool.and_xor_distrib_left]

theorem receivedCode_lt (cw : Cw24) : (receivedCode cw).toNat < 2 ^ 19 := by
  rw [receivedCode, BitVec.toNat_setWidth]
  omega

/-- What is packed is received as it is reassembled. -/
theorem receivedCode_packCodeword (b0 b1 b2 : Byte) : receivedCode (packCodeword b0 b1 b2) = reassemble b0 b1 b2 := by
  rw [receivedCode, ← reassemble_extractLsb_eq_arg]
  apply BitVec.eq_of_toNat_eq
  have hlt := reassemble_lt b0 b1 b2
  rw [BitVec.toNat_setWidth, BitVec.extractLsb'_toNat, Nat.shiftRight_zero]
  omega

/-- Presented to a block in any state, the `DEC` of a packed codeword is answered by the decoded value of its bits 23:5. -/
theorem answers_decOf (cw : Cw24) (s : State) : Answers (decOf cw) s (errNone ++ decodedValue s.mem (receivedCode cw)) := by
  have hcw : packCodeword (cw.extractLsb' 16 8) (cw.extractLsb' 8 8) (cw.extractLsb' 0 8) = cw := by
    rw [packCodeword]
    iterate 2 rw [BitVec.extractLsb'_append_extractLsb'_eq_extractLsb' (by rfl)]
    exact BitVec.extractLsb'_eq_self
  have hcode := receivedCode_packCodeword (cw.extractLsb' 16 8) (cw.extractLsb' 8 8) (cw.extractLsb' 0 8)
  rw [hcw] at hcode
  rw [hcode]
  exact answers_dec _ _ _ s

/-! ### Corrected errors -/

/-- The value extracted from a codeword's code integer is the data byte (R60, R85). -/
theorem extractValue_codeInteger (v : Byte) (cs : Checksum) : extractValue (codeInteger v cs) = v.setWidth 24 := by
  refine BitVec.eq_of_getLsbD_eq fun j hj => ?_
  have h₁ : ¬ 11 + j < 3 := by omega
  rw [extractValue_getLsbD, codeInteger, reassemble_getLsbD]
  simp [hj, h₁]

/-- With an encode ROM that meets its constraints, `DEC` of the codeword of `v` with an error on it answers `v`, if the decode ROM
agrees with the error, above the parity field, at the error's syndrome. -/
theorem answers_decOf_encodedWord_xor {s : State} (hm : s.mem.EncValid) (v : Byte) {d : Cw24}
    (hd : s.mem.readDec (syndromeAddress (pmod (pattern (receivedCode d)))) >>> 11 = receivedCode d >>> 11) :
    Answers (decOf (encodedWord s.mem v ^^^ d)) s (errNone ++ v.setWidth 24) := by
  obtain ⟨-, -, hpar⟩ := hm
  have hsynd := (synd_codeInteger_eq_zero_iff v (s.mem.readEnc v)).mpr (hpar v)
  have hrem : pmod (pattern (codeInteger v (s.mem.readEnc v))) = 0 :=
    Option.some_inj.mp ((synd_pattern (reassemble_lt _ _ _)).symm.trans hsynd)
  have hcode : receivedCode (encodedWord s.mem v ^^^ d) = codeInteger v (s.mem.readEnc v) ^^^ receivedCode d := by
    rw [receivedCode_xor, encodedWord, receivedCode_packCodeword, codeInteger]
  have hvalue : decodedValue s.mem (receivedCode (encodedWord s.mem v ^^^ d)) = v.setWidth 24 := by
    rw [hcode, decodedValue_xor hrem, BitVec.ushiftRight_xor_distrib, hd, BitVec.xor_self, BitVec.xor_zero,
      ← extractValue, extractValue_codeInteger]
  exact hvalue ▸ answers_decOf _ s

/-- Settles O37: without an error, the syndrome is zero and nothing is corrected. -/
theorem roundTrip : Obligations.RoundTrip := by
  rintro s v - ⟨henc, hzero, -⟩
  refine ⟨_, answers_enc_byte v s, ?_⟩
  have haddr : syndromeAddress (pmod (pattern (receivedCode 0))) = 0 := by decide +kernel
  have hcorr := answers_decOf_encodedWord_xor henc v (d := 0) (by rw [haddr, hzero]; decide)
  rwa [show encodedWord s.mem v ^^^ 0 = encodedWord s.mem v from BitVec.xor_zero] at hcorr

/-- A flipped bit of the codeword is one of the low five, which are not received, or one of the code integer. -/
theorem receivedCode_twoPow : ∀ i, i < 24 →
    receivedCode (BitVec.twoPow 24 i) = if i < 5 then 0 else BitVec.twoPow 20 (i - 5) := by decide

/-- Settles O38: a flip of the low five bits is not received, and rule R101 constrains the words for the other nineteen. -/
theorem singleBitErrorsAreCorrected : Obligations.SingleBitErrorsAreCorrected := by
  rintro s v i - ⟨henc, hzero, hsingle⟩ hi
  refine ⟨_, answers_enc_byte v s, answers_decOf_encodedWord_xor henc v ?_⟩
  rw [receivedCode_twoPow i hi]
  split
  · rw [show syndromeAddress (pmod (pattern 0)) = 0 by decide +kernel, hzero]
  · have hbit : pattern (BitVec.twoPow 20 (i - 5)) = BitVec.twoPow 32 (i - 5) := by
      apply BitVec.eq_of_toNat_eq
      rw [pattern_toNat, BitVec.toNat_twoPow_of_lt (by omega), BitVec.toNat_twoPow_of_lt (by omega)]
    rw [hbit]
    exact hsingle (i - 5) (by omega)

/-- An error on bits 23:5 with any change below is received as the error. -/
theorem receivedCode_append (e : BitVec 19) (low : BitVec 5) : receivedCode (e ++ low : Cw24) = e.setWidth 20 := by
  refine BitVec.eq_of_getLsbD_eq fun j hj => ?_
  rw [receivedCode_getLsbD, BitVec.getLsbD_append]
  by_cases h : j < 19
  · simp [h, hj]
  · simp [h, BitVec.getLsbD_of_ge e j (by omega)]

/-- Settles O39: the default decode ROM holds every error of weight at most three at its syndrome. -/
theorem threeErrorsAreCorrected : Obligations.ThreeErrorsAreCorrected := by
  rintro s v e low - hmem hw
  have henc : s.mem.EncValid := hmem ▸ encValid_of_instantiate instantiate_referenceConfig
  refine ⟨_, answers_enc_byte v s, answers_decOf_encodedWord_xor henc v ?_⟩
  have hlt : (e.setWidth 20).toNat < 2 ^ 19 := by rw [BitVec.toNat_setWidth]; omega
  have hpat : pattern (e.setWidth 20) = e.setWidth 32 := BitVec.setWidth_setWidth (by omega)
  rw [receivedCode_append, hmem, syndromeAddress_of_lt (pmod_lt _), reset_readDec_pmod hlt (hpat ▸ hw)]

end Sys2Proof.Machine
end

section
/-! What a step writes (`10_state.md` rules R16, R21, R22, `60_exceptions.md` rule R104): the frames of the two operations, the
transitions of `PHASE`, and the one place where `RES` and `ERR` change. -/

namespace Sys2Proof.Machine

/-! ### The frames -/

@[simp] theorem dividerStep_code (s : State) : (dividerStep s).code = s.code := by rw [dividerStep_frame]
@[simp] theorem dividerStep_mem (s : State) : (dividerStep s).mem = s.mem := by rw [dividerStep_frame]
@[simp] theorem dividerStep_rst (s : State) : (dividerStep s).rst = s.rst := by rw [dividerStep_frame]
@[simp] theorem dividerStep_rsps (s : State) : (dividerStep s).rsps = s.rsps := by rw [dividerStep_frame]
@[simp] theorem dividerStep_free (s : State) : (dividerStep s).free = s.free := by rw [dividerStep_frame]

/-- All that `ENC` can do: it completes, with or without the fault (R54, R55). -/
theorem exec_enc_cases {rsvd : BitVec 12} {v : DataPort} {s t : State} (h : exec (.enc rsvd v) s = .next t) :
    ∃ e d, t = complete e d s ∧ (e = errNone ∨ (e = errOutOfRange ∧ d = 0)) := by
  obtain ⟨-, rfl⟩ | ⟨-, rfl⟩ := execEnc_cases h
  · exact ⟨_, _, rfl, .inr ⟨rfl, rfl⟩⟩
  · exact ⟨_, _, rfl, .inl rfl⟩

/-- Settles O9: `ENC` completes, and completing leaves all else. -/
theorem encFrame : Obligations.EncFrame := by
  intro s t rsvd v hp h
  obtain ⟨e, d, rfl, -⟩ := exec_enc_cases h
  exact ⟨hp.symm, rfl, rfl, rfl, fun _ => rfl, fun _ => rfl, rfl, rfl, rfl, _, rfl⟩

/-- A busy block's step is `FIX` or the divider's. -/
theorem step_busy_cases {s t : State} (hi : s.phase ≠ .idle) (hr : resetApplied s = false) (h : step s = .next t) :
    (s.phase = .fix ∧ t = fixStep (tick s)) ∨ (s.phase ≠ .fix ∧ t = dividerStep (tick s)) := by
  by_cases hf : s.phase = .fix
  · rw [step_fix hf hr] at h
    injection h with h
    exact .inl ⟨hf, h.symm⟩
  · rw [step_dividing hi hf hr] at h
    injection h with h
    exact .inr ⟨hf, h.symm⟩

/-- Settles O15: the first step starts the divider; of the later ones the last is `FIX`, the others are the divider's. -/
theorem decFrame : Obligations.DecFrame := by
  refine ⟨fun s t b0 b1 b2 h => ?_, fun s t hi hr h => ?_⟩
  · obtain rfl := execDec_cases h
    exact ⟨rfl, rfl, rfl, rfl, rfl, rfl, fun _ => rfl, fun _ => rfl⟩
  · obtain ⟨hf, rfl⟩ | ⟨hf, rfl⟩ := step_busy_cases hi hr h
    · exact ⟨rfl, rfl, rfl, fun _ => rfl, fun _ => rfl, fun hne => absurd hf hne, fun _ => rfl, fun _ => rfl⟩
    · refine ⟨by simp, by simp, by simp, by simp, by simp, fun _ => by simp, fun hX => ?_, fun hA => ?_⟩
      · exact dividerStep_pat_of_ne_synX (s := tick s) hX
      · exact dividerStep_aux_of_ne_synA (s := tick s) hA

/-- Everything a step can do: a reset; for an idle block a wait, a completed `ENC` or a started `DEC`; for a busy one `FIX` or a
micro-step of the divider. -/
theorem step_cases {s t : State} (h : step s = .next t) :
    (resetApplied s = true ∧ t = resetBlock (tick s)) ∨
    (resetApplied s = false ∧
      ((s.phase = .idle ∧ t = tick s) ∨
       (∃ later e d, s.phase = .idle ∧ t = complete e d { tick s with reqs := later } ∧
         (e = errNone ∨ (e = errOutOfRange ∧ d = 0))) ∨
       (∃ later c, s.phase = .idle ∧ c.toNat < 2 ^ 19 ∧
         t = startDivider (pattern c) { tick s with reqs := later, code := c }) ∨
       (s.phase = .fix ∧ t = fixStep (tick s)) ∨
       (s.phase ≠ .idle ∧ s.phase ≠ .fix ∧ t = dividerStep (tick s)))) := by
  cases hr : resetApplied s with
  | true =>
    rw [step_reset hr] at h
    injection h with h
    exact .inl ⟨rfl, h.symm⟩
  | false =>
    refine .inr ⟨rfl, ?_⟩
    by_cases hi : s.phase = .idle
    · cases hq : s.reqs with
      | nil =>
        rw [step_waiting hi hr hq] at h
        injection h with h
        exact .inl ⟨hi, h.symm⟩
      | cons r later =>
        rw [step_idle hi hr hq] at h
        cases hd : decodeRequest r with
        | enc rsvd v =>
          rw [hd] at h
          obtain ⟨e, d, ht, herr⟩ := exec_enc_cases h
          exact .inr (.inl ⟨later, e, d, hi, ht, herr⟩)
        | dec b0 b1 b2 =>
          rw [hd] at h
          exact .inr (.inr (.inl ⟨later, _, hi, reassemble_lt b0 b1 b2, execDec_cases h⟩))
    · obtain ⟨hf, ht⟩ | ⟨hf, ht⟩ := step_busy_cases hi hr h
      · exact .inr (.inr (.inr (.inl ⟨hf, ht⟩)))
      · exact .inr (.inr (.inr (.inr ⟨hi, hf, ht⟩)))

/-! ### The phases -/

/-- The divider's phases move as its tests come out (R16). -/
theorem dividerStep_phase_cases (s : State) :
    (s.phase = .synT → (dividerStep s).phase = .fix ∨ (dividerStep s).phase = .synW) ∧
    (s.phase = .synW → (dividerStep s).phase = .synA ∨ (dividerStep s).phase = .fix) ∧
    (s.phase = .synA → (dividerStep s).phase = .synA ∨ (dividerStep s).phase = .synX) ∧
    (s.phase = .synX → (dividerStep s).phase = .synW) := by
  refine ⟨fun hp => ?_, fun hp => ?_, fun hp => ?_, fun hp => by simp [dividerStep, hp]⟩
  · cases hb : belowThreshold s.pat <;> simp [dividerStep, hp, hb]
  · cases hm : inMaskRegion s.pat <;> simp [dividerStep, hp, hm]
  · cases ho : overlaps s.aux s.pat <;> simp [dividerStep, hp, ho]

/-- Settles O56: an idle block waits, completes an `ENC` or starts a `DEC`; a busy one moves as the divider's tests come out, and
ends with `FIX`. -/
theorem phaseTransitions : Obligations.PhaseTransitions := by
  refine ⟨fun s t hr h => ?_, fun s t rsvd v _ h => ?_, fun s t b0 b1 b2 h => ?_⟩
  · obtain ⟨hr', -⟩ | ⟨-, ⟨hp, rfl⟩ | ⟨later, e, d, hp, rfl, -⟩ | ⟨later, c, hp, -, rfl⟩ | ⟨hp, rfl⟩ |
      ⟨hi, hf, rfl⟩⟩ := step_cases h
    · exact absurd (hr.symm.trans hr') Bool.false_ne_true
    · exact .inl ⟨hp, .inl hp⟩
    · exact .inl ⟨hp, .inl rfl⟩
    · exact .inl ⟨hp, .inr rfl⟩
    · simp [hp]
    · obtain ⟨hT, hW, hA, hX⟩ := dividerStep_phase_cases (tick s)
      cases hp : s.phase with
      | idle => exact absurd hp hi
      | fix => exact absurd hp hf
      | synT => simpa using hT hp
      | synW => simpa using hW hp
      | synA => simpa using hA hp
      | synX => simpa using hX hp
  · obtain ⟨e, d, rfl, -⟩ := exec_enc_cases h
    rfl
  · obtain rfl := execDec_cases h
    rfl

/-! ### The result registers -/

/-- Settles O58: an `ENC` and `FIX` complete; nothing else but a reset touches the result. -/
theorem resultChangesOnlyAtCompletion : Obligations.ResultChangesOnlyAtCompletion := by
  refine ⟨fun s t hr h => ?_, fun s hr => ⟨_, step_reset hr, rfl, rfl, rfl, rfl, rfl⟩⟩
  obtain ⟨hr', -⟩ | ⟨-, ⟨-, rfl⟩ | ⟨later, e, d, hp, rfl, herr⟩ | ⟨later, c, -, -, rfl⟩ | ⟨-, rfl⟩ |
    ⟨-, -, rfl⟩⟩ := step_cases h
  · exact absurd (hr.symm.trans hr') Bool.false_ne_true
  · exact .inl ⟨rfl, rfl, rfl⟩
  · exact .inr ⟨rfl, rfl, herr.imp_right fun ⟨he, hd⟩ => ⟨he, hd, hp⟩⟩
  · exact .inl ⟨rfl, rfl, rfl⟩
  · exact .inr ⟨rfl, rfl, .inl rfl⟩
  · exact .inl ⟨by simp, by simp, by simp⟩

/-- Settles O60: none of a step's cases stops. -/
theorem everyStepGoesOn : Obligations.EveryStepGoesOn := exists_step_eq_next

/-! ### The invariant -/

/-- Settles O48: nothing is listed, nothing is wrong, nothing is in progress. -/
theorem resetMeetsTheInvariant : Obligations.ResetMeetsTheInvariant := ⟨reset_mem_wf, .inl rfl, trivial⟩

/-- In `IDLE` the divider's part of the invariant is void. -/
theorem dividerInv_idle {s : State} (hp : s.phase = .idle) : DividerInv s := by simp only [DividerInv, hp]

/-- Settles O49: each case of a step but the divider's ends in `IDLE` or at the divider's start. -/
theorem everyStepKeepsTheInvariant : Obligations.EveryStepKeepsTheInvariant := by
  rintro s t ⟨hm, hf, hdiv⟩ h
  refine ⟨step_mem h ▸ hm, ?_⟩
  obtain ⟨-, rfl⟩ | ⟨-, ⟨-, rfl⟩ | ⟨later, e, d, -, rfl, herr⟩ | ⟨later, c, -, hc, rfl⟩ | ⟨-, rfl⟩ |
    ⟨-, -, rfl⟩⟩ := step_cases h
  · exact ⟨.inl rfl, dividerInv_idle rfl⟩
  · exact ⟨hf, hdiv⟩
  · exact ⟨herr, dividerInv_idle rfl⟩
  · exact ⟨hf, dividerInv_start hc { tick s with reqs := later }⟩
  · exact ⟨.inl rfl, dividerInv_idle rfl⟩
  · exact ⟨by simpa [FaultInv] using hf, dividerStep_keeps_inv (s := tick s) hdiv⟩

end Sys2Proof.Machine
end

section
/-! What a step reads (`10_state.md` rules R20, R22, `20_memory.md` section 1): two blocks that differ only where a step does not
look make the same step. -/

namespace Sys2Proof.Machine

/-! ### Pairs of steps -/

/-- Two blocks in the same phase, with the same reset input, the same requests and the same encode ROM, whose steps are related by
`R` case by case, make steps related by `R`. -/
theorem step_related {R : State → State → Prop} {s s' t : State} (hphase : s'.phase = s.phase) (hrst : s'.rst = s.rst)
    (hreqs : s'.reqs = s.reqs) (henc : ∀ a, s'.mem.readEnc a = s.mem.readEnc a)
    (hreset : R (resetBlock (tick s)) (resetBlock (tick s')))
    (hwait : s.phase = .idle → R (tick s) (tick s'))
    (hcomplete : s.phase = .idle → ∀ later e d,
      R (complete e d { tick s with reqs := later }) (complete e d { tick s' with reqs := later }))
    (hstart : s.phase = .idle → ∀ later c,
      R (startDivider (pattern c) { tick s with reqs := later, code := c })
        (startDivider (pattern c) { tick s' with reqs := later, code := c }))
    (hfix : s.phase = .fix → R (fixStep (tick s)) (fixStep (tick s')))
    (hdivide : s.phase ≠ .idle → s.phase ≠ .fix → R (dividerStep (tick s)) (dividerStep (tick s')))
    (h : step s = .next t) : ∃ t', step s' = .next t' ∧ R t t' := by
  have hr' : resetApplied s' = resetApplied s := by rw [resetApplied, hrst, resetApplied]
  cases hr : resetApplied s with
  | true =>
    rw [step_reset hr] at h
    injection h with h
    exact ⟨_, step_reset (hr'.trans hr), h ▸ hreset⟩
  | false =>
    have hr' := hr'.trans hr
    by_cases hi : s.phase = .idle
    · cases hq : s.reqs with
      | nil =>
        rw [step_waiting hi hr hq] at h
        injection h with h
        exact ⟨_, step_waiting (hphase.trans hi) hr' (hreqs.trans hq), h ▸ hwait hi⟩
      | cons r later =>
        rw [step_idle (hphase.trans hi) hr' (hreqs.trans hq)]
        rw [step_idle hi hr hq] at h
        cases hd : decodeRequest r with
        | enc rsvd v =>
          rw [hd] at h
          cases ho : outOfRange (encArg rsvd v) with
          | true =>
            rw [exec_enc_of_outOfRange ho] at h ⊢
            injection h with h
            exact ⟨_, rfl, h ▸ hcomplete hi later _ _⟩
          | false =>
            rw [exec_enc_of_inRange ho] at h ⊢
            rw [encodedWord_congr henc]
            injection h with h
            exact ⟨_, rfl, h ▸ hcomplete hi later _ _⟩
        | dec b0 b1 b2 =>
          rw [hd] at h
          injection h with h
          exact ⟨_, rfl, h ▸ hstart hi later _⟩
    · by_cases hf : s.phase = .fix
      · rw [step_fix hf hr] at h
        injection h with h
        exact ⟨_, step_fix (hphase.trans hf) hr', h ▸ hfix hf⟩
      · rw [step_dividing hi hf hr] at h
        injection h with h
        exact ⟨_, step_dividing (hphase ▸ hi) (hphase ▸ hf) hr', h ▸ hdivide hi hf⟩

/-- A divider step reads `PHASE`, `PAT` and `AUX` only. -/
theorem dividerStep_transplant (s b : State) :
    dividerStep { b with phase := s.phase, pat := s.pat, aux := s.aux } =
      { b with phase := (dividerStep s).phase, pat := (dividerStep s).pat, aux := (dividerStep s).aux } := by
  cases hp : s.phase with
  | synA => cases ho : overlaps s.aux s.pat <;> simp [dividerStep, alignStep, hp, ho]
  | idle | synT | synW | synX | fix => simp [dividerStep, thresholdTest, loopTest, cancelStep, hp]

/-! ### The upper half of the decode ROM -/

/-- The state with another memory. -/
def setMem (m : Memory) (s : State) : State := { s with mem := m }

theorem dividerStep_setMem (m : Memory) (s : State) : dividerStep (setMem m s) = setMem m (dividerStep s) := by
  rw [dividerStep_frame s]
  exact dividerStep_transplant s (setMem m s)

/-- The lookup's address is in the lower half (R29). -/
theorem syndromeAddress_lt (p : Word32) : syndromeAddress p < 0x800 := by
  rw [BitVec.lt_def, syndromeAddress, BitVec.toNat_setWidth]
  have hlt : (p.extractLsb' 0 11).toNat < 2 ^ 11 := (p.extractLsb' 0 11).isLt
  exact (Nat.mod_le _ _).trans_lt hlt

/-- Settles O46: only `FIX` reads the decode ROM, at an address of the lower half. -/
theorem upperHalfIsNeverRead : Obligations.UpperHalfIsNeverRead := by
  intro s t m henc hdec h
  have hfix : fixStep (tick (setMem m s)) = setMem m (fixStep (tick s)) := by
    have hword : m.readDec (syndromeAddress s.pat) = s.mem.readDec (syndromeAddress s.pat) :=
      hdec _ (syndromeAddress_lt _)
    simp only [fixStep, setMem, tick, hword]
    rfl
  obtain ⟨t', ht', rfl⟩ := step_related (R := fun t t' => t' = setMem m t) (s := s) (s' := setMem m s) rfl rfl rfl henc rfl
    (fun _ => rfl) (fun _ _ _ _ => rfl) (fun _ _ _ => rfl) (fun _ => hfix)
    (fun _ _ => dividerStep_setMem m (tick s)) h
  exact ht'

/-! ### The result registers -/

/-- The state with another result. -/
def setResult (r : Cw24) (e : ErrCode) (s : State) : State := { s with res := r, err := e }

theorem dividerStep_setResult (r : Cw24) (e : ErrCode) (s : State) :
    dividerStep (setResult r e s) = setResult r e (dividerStep s) := by
  rw [dividerStep_frame s]
  exact dividerStep_transplant s (setResult r e s)

/-- Settles O59: a reset and a completion overwrite both registers, and every other step leaves them. -/
theorem noStepReadsTheResultRegisters : Obligations.NoStepReadsTheResultRegisters := by
  intro s t r e h
  obtain ⟨t', ht', rfl | rfl⟩ := step_related (R := fun t t' => t' = t ∨ t' = setResult r e t) (s := s) (s' := setResult r e s)
    rfl rfl rfl (fun _ => rfl) (.inl rfl) (fun _ => .inr rfl) (fun _ _ _ _ => .inl rfl) (fun _ _ _ => .inr rfl)
    (fun _ => .inl rfl) (fun _ _ => .inr (dividerStep_setResult r e (tick s))) h
  · exact .inl ht'
  · exact .inr ht'

/-! ### The working registers of an idle block -/

/-- The state with other working registers. -/
def setWorking (c : CodeInt) (p a : Word32) (s : State) : State := { s with code := c, pat := p, aux := a }

/-- Equal, but for working registers left over in `IDLE` (R20). -/
def EqButLeftover (s s' : State) : Prop := s' = s ∨ (s.phase = .idle ∧ ∃ c p a, s' = setWorking c p a s)

/-- A step keeps two blocks equal but for leftovers: the start of a `DEC` and a reset overwrite them. -/
theorem step_eqButLeftover {s s' t : State} (hs : EqButLeftover s s') (h : step s = .next t) :
    ∃ t', step s' = .next t' ∧ EqButLeftover t t' := by
  obtain rfl | ⟨hi, c, p, a, rfl⟩ := hs
  · exact ⟨t, h, .inl rfl⟩
  · exact step_related (s := s) (s' := setWorking c p a s) rfl rfl rfl (fun _ => rfl) (.inl rfl)
      (fun _ => .inr ⟨hi, c, p, a, rfl⟩) (fun _ _ _ _ => .inr ⟨rfl, c, p, a, rfl⟩) (fun _ _ _ => .inl rfl)
      (fun hf => absurd (hi.symm.trans hf) nofun) (fun hne _ => absurd hi hne) h

/-- What every step keeps of a pair of blocks, every run keeps. -/
theorem runs_related {R : State → State → Prop}
    (hstep : ∀ s s' t, R s s' → step s = .next t → ∃ t', step s' = .next t' ∧ R t t') {n : Nat} {s s' t : State}
    (hs : R s s') (h : runs n s = .next t) : ∃ t', runs n s' = .next t' ∧ R t t' := by
  induction n generalizing s s' with
  | zero => injection h with h; exact ⟨s', rfl, h ▸ hs⟩
  | succ n ih =>
    obtain ⟨u, hu, hrest⟩ := runs_succ_cases h
    obtain ⟨u', hu', hrel⟩ := hstep s s' u hs hu
    rw [runs_succ_of_step hu']
    exact ih hrel hrest

/-- Settles O55: equality but for leftovers is kept by every step, so by every run. -/
theorem leftoverRegistersInfluenceNothing : Obligations.LeftoverRegistersInfluenceNothing := by
  intro n s t c p a hi h
  obtain ⟨t', ht', rfl | ⟨-, c', p', a', rfl⟩⟩ :=
    runs_related (fun _ _ _ => step_eqButLeftover) (.inr ⟨hi, c, p, a, rfl⟩) h
  · exact ⟨_, ht', rfl⟩
  · exact ⟨_, ht', rfl⟩

end Sys2Proof.Machine
end

section
/-! How long an operation takes and in what order requests are answered (`70_reset_and_hazards.md` section 4, `10_state.md`
section 3). -/

namespace Sys2Proof.Machine

/-! ### The length of a `DEC` -/

/-- After its start a `DEC` makes the threshold test (R63). -/
theorem runs_one_startDivider (p : Word32) {s : State} (hr : s.NoReset) :
    runs 1 (startDivider p s) = .next (thresholdTest (tick (startDivider p s))) :=
  runs_succ_of_step (step_synT (s := startDivider p s) rfl (State.NoReset.resetApplied_eq_false hr)) 0

/-- Where the threshold test holds, `FIX` follows it at once (R63). -/
theorem runs_two_startDivider {p : Word32} (hp : p.toNat < 2 ^ 11) {s : State} (hr : s.NoReset) :
    runs 2 (startDivider p s) = .next (fixStep (tick (thresholdTest (tick (startDivider p s))))) := by
  have hfix : (thresholdTest (tick (startDivider p s))).phase = .fix := by simp [(belowThreshold_iff p).mpr hp]
  have hr' : (thresholdTest (tick (startDivider p s))).NoReset := fun b hb => hr b (List.mem_of_mem_tail hb)
  rw [runs_succ_of_runs (runs_one_startDivider p hr), step_fix hfix hr'.resetApplied_eq_false]

/-- A started `DEC` is busy for 2 to 34 steps, and for 2 if its code integer is below the threshold. -/
theorem startDivider_busy {c : CodeInt} (hc : c.toNat < 2 ^ 19) {s : State} (hr : s.NoReset) :
    ∃ n u, 2 ≤ n ∧ n ≤ 34 ∧ runs n (startDivider (pattern c) { s with code := c }) = .next u ∧ u.phase = .idle ∧
      (∀ m w, m < n → runs m (startDivider (pattern c) { s with code := c }) = .next w → w.phase ≠ .idle) ∧
      (c.toNat < 2 ^ 11 → n = 2) := by
  have hr' : ({ s with code := c } : State).NoReset := hr
  obtain ⟨n, u, hpos, hn, hrun, hidle, -, -, -, -, -, hbefore⟩ := busy_completes (dividerInv_start hc s) nofun hr'
  have htwo : 2 ≤ n := by
    by_contra hlt
    obtain rfl : n = 1 := by omega
    rw [runs_one_startDivider _ hr'] at hrun
    injection hrun with hrun
    subst hrun
    cases hb : belowThreshold (pattern c) <;> simp [hb] at hidle
  refine ⟨n, u, htwo, hn.trans (Nat.succ_le_succ (divisionStepsLeft_start hc s)), hrun, hidle, fun m w hm hw => ?_,
    fun hsmall => ?_⟩
  · obtain ⟨-, hbusy⟩ := hbefore m w hm hw
    exact hbusy
  · by_contra hne
    have hruns := runs_two_startDivider (p := pattern c) (by rwa [pattern_toNat]) hr'
    obtain ⟨-, hbusy⟩ := hbefore 2 _ (by omega) hruns
    exact hbusy (fixStep_phase _)

/-- Settles O17: the step that accepts the `DEC`, and then those of the started one. -/
theorem decTakesThreeToThirtyFiveSteps : Obligations.DecTakesThreeToThirtyFiveSteps := by
  intro s b0 b1 b2 later hp hr hq
  have hstep := step_idle hp hr.resetApplied_eq_false hq
  rw [decodeRequest_encode] at hstep
  have hr' : ({ s with reqs := later, rst := s.rst.tail } : State).NoReset := fun b hb => hr b (List.mem_of_mem_tail hb)
  obtain ⟨n, u, htwo, hn, hrun, hidle, hbusy, hsmall⟩ := startDivider_busy (reassemble_lt b0 b1 b2) hr'
  refine ⟨n + 1, u, by omega, by omega, (runs_succ_of_step hstep n).trans hrun, hidle, fun m w hpos hm hw => ?_,
    fun hlt => by rw [hsmall hlt]⟩
  obtain ⟨m, rfl⟩ := Nat.exists_eq_succ_of_ne_zero hpos.ne'
  exact bne_iff_ne.mpr (hbusy m w (by omega) ((runs_succ_of_step hstep m).symm.trans hw))

/-! ### Requests in order -/

/-- Runs compose. -/
theorem runs_add {m n : Nat} {s t : State} (h : runs m s = .next t) : runs (m + n) s = runs n t := by
  induction m generalizing s with
  | zero => injection h with h; rw [Nat.zero_add, h]
  | succ m ih =>
    obtain ⟨u, hu, hrest⟩ := runs_succ_cases h
    rw [Nat.add_right_comm, runs_succ_of_step hu, ih hrest]

/-- An idle block answers the request presented first within 35 steps, and is idle again, ready for the next (R46, R124). -/
theorem request_completes {s : State} {r : Request} {later : List Request} (hp : s.phase = .idle) (hr : s.NoReset)
    (hq : s.reqs = r :: later) :
    ∃ n u, n ≤ 35 ∧ runs n s = .next u ∧ u.phase = .idle ∧ u.NoReset ∧ u.reqs = later ∧ u.mem = s.mem ∧
      u.rsps = s.rsps ++ [responseOf s.mem (decodeRequest r)] := by
  have hstep := step_idle hp hr.resetApplied_eq_false hq
  have hr' : ({ s with reqs := later, rst := s.rst.tail } : State).NoReset := fun b hb => hr b (List.mem_of_mem_tail hb)
  cases hd : decodeRequest r with
  | enc rsvd v =>
    rw [hd] at hstep
    obtain ⟨e, d, hexec, hrsp⟩ := execEnc_completes rsvd v { s with reqs := later, rst := s.rst.tail }
    change responseOf s.mem _ = _ at hrsp
    rw [hrsp]
    exact ⟨1, _, by omega, runs_succ_of_step (hstep.trans hexec) 0, rfl, hr', rfl, rfl, rfl⟩
  | dec b0 b1 b2 =>
    rw [hd] at hstep
    obtain ⟨n, hn, a, hrun⟩ := runs_startDivider (reassemble_lt b0 b1 b2) hr'
    refine ⟨n + 1, _, by omega, (runs_succ_of_step hstep n).trans hrun, rfl, fun b hb => ?_, rfl, rfl, ?_⟩
    · exact hr' b (List.mem_of_mem_drop hb)
    · simp only [responseOf]
      rfl

/-- Settles O54: by induction on the list, each request's operation leaves the block ready for the next, with the same ROMs. -/
theorem requestsAreAnsweredInOrder : Obligations.RequestsAreAnsweredInOrder := by
  intro s hp hr
  induction hq : s.reqs generalizing s with
  | nil => exact ⟨0, s, by simp, rfl, hp, hq, by simp⟩
  | cons r later ih =>
    obtain ⟨m, t, hm, hrun, hp', hr', hreqs, hmem, hrsps⟩ := request_completes hp hr hq
    obtain ⟨n, u, hn, hrun', hidle, hnone, hall⟩ := ih t hp' hr' hreqs
    refine ⟨m + n, u, ?_, (runs_add hrun).trans hrun', hidle, hnone, ?_⟩
    · rw [List.length_cons]; omega
    · rw [hall, hrsps, hmem, List.map_cons, List.append_assoc, List.singleton_append]

end Sys2Proof.Machine
end
